-- ==== Sys2Proof/Word.lean ====
section
/-!
DEFINITION. The byte, the only word of the block that the spec treats as bits (spec/20_memory.md R68: no value is
wider than one byte). Bit 0 is the least significant bit (spec/00_scope.md R11).
-/

namespace Sys2Proof

/-- A byte: OutputRegisterByte, the latched outputs, a command. -/
abbrev Byte := BitVec 8

end Sys2Proof
end

