-- ==== Sys2Proof/Syntax.lean ====
section
/-!
DEFINITION. The thirteen operations of the block (spec/30_encoding.md R100), one constructor per row of
spec/opcode_table.json, with the operand types of R92, R96, R97. An operand field that has a reserved value (the channel
of ORB.SET and TOGGLE, the rotation of EV.ROT) is kept as the two bits of the command's N field (R101), so that the
reserved value can be written and is refused by name (R107).
-/

namespace Sys2Proof

/-- A regulator channel, 0, 1 or 2 (R6, R20). -/
abbrev Channel := Fin 3

/-- A button, 0 to 3 (R92). -/
abbrev ButtonId := Fin 4

/-- The RotationEvent of R34 and R96; `none` is a value, not an error (R164). -/
inductive Rotation where
  | none
  | clockwise
  | counterClockwise
  deriving DecidableEq, Repr, Inhabited

/-- The operations of R100. -/
inductive Instr where
  /-- ORB.RD (R121). -/
  | orbRd
  /-- ORB.SET c, v (R122); `c` is the N field. -/
  | orbSet (c : BitVec 2) (v : Bool)
  /-- SCAN (R138). -/
  | scan
  /-- QDEC (R157). -/
  | qdec
  /-- SELNEXT (R182). -/
  | selnext
  /-- TOGGLE c (R186); `c` is the N field. -/
  | toggle (c : BitVec 2)
  /-- ADJ inc (R190); `inc` is the V field, true for increment. -/
  | adj (inc : Bool)
  /-- EV.BTN b (R206). -/
  | evBtn (b : ButtonId)
  /-- EV.ROT d (R212); `d` is the N field, read by R96. -/
  | evRot (d : BitVec 2)
  /-- IRQ.BTN (R240). -/
  | irqBtn
  /-- IRQ.ENC (R241). -/
  | irqEnc
  /-- NOP (R246). -/
  | nop
  /-- INIT (R260). -/
  | init
  deriving DecidableEq, Repr, Inhabited

/-- Why a command byte is refused by the decoder (R106, R107). -/
inductive DecodeError where
  /-- No operation has this byte (R106). -/
  | reservedCommand
  /-- The channel field is 3 (R107). -/
  | badChannel
  /-- The rotation field is 0b10 (R107). -/
  | badRotation
  deriving DecidableEq, Repr

end Sys2Proof
end

