-- ==== Sys2Proof/WellFormed.lean ====
section
/-!
DEFINITION. Which terms of `Instr` are operations of the block: an operand field must not hold the value that
spec/30_encoding.md R107 reserves.
-/

namespace Sys2Proof

/-- R97, R107: a channel field names a channel unless it is 3. -/
def channelOk (n : BitVec 2) : Bool := n != 3#2

/-- R96, R107: a rotation field is a RotationEvent unless it is 0b10. -/
def rotationOk (n : BitVec 2) : Bool := n != 2#2

/-- The operand checks of R107; the other operands have no reserved value. -/
def Instr.wellFormed : Instr → Bool
  | .orbRd => true
  | .orbSet c _ => channelOk c
  | .scan => true
  | .qdec => true
  | .selnext => true
  | .toggle c => channelOk c
  | .adj _ => true
  | .evBtn _ => true
  | .evRot d => rotationOk d
  | .irqBtn => true
  | .irqEnc => true
  | .nop => true
  | .init => true

end Sys2Proof
end

