-- ==== Sys2Proof/Decode.lean ====
section
/-!
DEFINITION. The command byte (spec/30_encoding.md R101 to R107): the decoder, total on every byte, and after it the
encoder, written from the same table (R103).
-/

namespace Sys2Proof

/-- The OP field, bits 7:4 (R101). -/
def opField (b : Byte) : BitVec 4 := b.extractLsb' 4 4

/-- The V field, bit 2 (R101). -/
def vField (b : Byte) : Bool := b.getLsbD 2

/-- The N field, bits 1:0 (R101). -/
def nField (b : Byte) : BitVec 2 := b.extractLsb' 0 2

/-- An operation with no operand requires V = 0 and N = 0 (R101); otherwise the byte is reserved (R106). -/
def decodeNone (b : Byte) (i : Instr) : Except DecodeError Instr :=
  if vField b = false ∧ nField b = 0#2 then .ok i else .error .reservedCommand

/-- An operation with no V operand requires V = 0 (R101). -/
def decodeNoV (b : Byte) (r : Except DecodeError Instr) : Except DecodeError Instr :=
  if vField b = false then r else .error .reservedCommand

/-- ORB.SET and TOGGLE: N = 3 names no channel (R107). -/
def decodeChannel (b : Byte) (mk : BitVec 2 → Instr) : Except DecodeError Instr :=
  if channelOk (nField b) then .ok (mk (nField b)) else .error .badChannel

/-- EV.ROT: N = 0b10 is not a RotationEvent (R107). -/
def decodeRotation (b : Byte) : Except DecodeError Instr :=
  if rotationOk (nField b) then .ok (.evRot (nField b)) else .error .badRotation

/-- ADJ has no N operand and requires N = 0 (R101). -/
def decodeAdj (b : Byte) : Except DecodeError Instr :=
  if nField b = 0#2 then .ok (.adj (vField b)) else .error .reservedCommand

/-- R103: the operation is told from OP alone and ARG is then checked; OP 0xB, 0xC, 0xD name no operation (R106). -/
def decodeOp (b : Byte) : Except DecodeError Instr :=
  match (opField b).toNat with
  | 0x0 => decodeNone b .orbRd
  | 0x1 => decodeChannel b (fun c => .orbSet c (vField b))
  | 0x2 => decodeNone b .scan
  | 0x3 => decodeNone b .qdec
  | 0x4 => decodeNone b .selnext
  | 0x5 => decodeNoV b (decodeChannel b .toggle)
  | 0x6 => decodeAdj b
  | 0x7 => decodeNoV b (.ok (.evBtn (nField b).toFin))
  | 0x8 => decodeNoV b (decodeRotation b)
  | 0x9 => decodeNone b .irqBtn
  | 0xA => decodeNone b .irqEnc
  | 0xE => decodeNone b .nop
  | 0xF => decodeNone b .init
  | _ => .error .reservedCommand

/-- The decoder: bit 3 is always 0 (R101, R106); every command is one byte (R103). -/
def decode (b : Byte) : Except DecodeError Instr :=
  if b.getLsbD 3 then .error .reservedCommand else decodeOp b

/-- A command byte from its fields OP, V and N, bit 3 being 0 (R101). -/
def commandByte (op : BitVec 4) (v : Bool) (n : BitVec 2) : Byte :=
  op ++ (0#1 ++ (BitVec.ofBool v ++ n))

/-- The encoder (R103). -/
def encode : Instr → Byte
  | .orbRd => commandByte 0x0#4 false 0#2
  | .orbSet c v => commandByte 0x1#4 v c
  | .scan => commandByte 0x2#4 false 0#2
  | .qdec => commandByte 0x3#4 false 0#2
  | .selnext => commandByte 0x4#4 false 0#2
  | .toggle c => commandByte 0x5#4 false c
  | .adj inc => commandByte 0x6#4 inc 0#2
  | .evBtn b => commandByte 0x7#4 false (BitVec.ofFin b)
  | .evRot d => commandByte 0x8#4 false d
  | .irqBtn => commandByte 0x9#4 false 0#2
  | .irqEnc => commandByte 0xA#4 false 0#2
  | .nop => commandByte 0xE#4 false 0#2
  | .init => commandByte 0xF#4 false 0#2

/-- The one byte that the opcode table's number `w` of `nbits` bits stands for: none where it does not fit one byte. -/
def tableByte (_nbits w : Nat) : Option Byte :=
  if w < 256 then some (BitVec.ofNat 8 w) else none

/-- The instruction the decoder reads from a row's bits `w`, numbered as spec/opcode_table.json numbers them: every
row is one byte, bit 0 its least significant bit. Entry 22. -/
def decodeTableWord (nbits w : Nat) : Option Instr :=
  match tableByte nbits w with
  | some b => (match decode b with
    | .ok i => some i
    | .error _ => none)
  | none => none

end Sys2Proof
end

