-- ==== Sys2Proof/Config.lean ====
section
/-!
DEFINITION. What is fixed for one chip, and the free values. An `opaque` constant here has no body that a proof can
see: a claim about it holds whatever it is. Rules: spec/00_scope.md R8 (NOMV), R9 (OPEN parameters), spec/20_memory.md R65
(samples are draws), spec/60_exceptions.md R238 (handlers are started freely), spec/10_state.md R54 (OUT_LATCH before
the first transmit).
-/

namespace Sys2Proof

/-- The two interrupt sources (R234). -/
inductive IrqSource where
  /-- An edge on the button-common line. -/
  | btn
  /-- An edge on encoder line A. -/
  | enc
  deriving DecidableEq, Repr, Inhabited

/-- The electrical level that means asserted (R9, ENC_POL). -/
inductive Level where
  | high
  | low
  deriving DecidableEq, Repr, Inhabited

/-- The edge that raises an interrupt (R9, IRQ_EDGE). -/
inductive EdgeKind where
  | rising
  | falling
  | both
  deriving DecidableEq, Repr, Inhabited

/-- The serial bit order of the transmit (R9, SR_BIT_ORDER). -/
inductive BitOrder where
  | msbFirst
  | lsbFirst
  deriving DecidableEq, Repr, Inhabited

/-- IND, the value of OutputRegisterByte bits 7:3 (R9, R25): OPEN, one constant of the chip. Entry 4. -/
opaque Config.ind : BitVec 5

/-- ENC_POL (R9): OPEN; no rule reads it. Entry 5. -/
opaque Config.encPol : Level

/-- IRQ_EDGE (R9): OPEN; no rule reads it. Entry 5. -/
opaque Config.irqEdge : EdgeKind

/-- PWM_PERIOD (R9, R250): OPEN, external; no rule reads it. Entry 5. -/
opaque Config.pwmPeriod : Nat

/-- SR_BIT_ORDER (R9, R68): OPEN, unobservable; no rule reads it. Entry 5. -/
opaque Config.srBitOrder : BitOrder

/-- OUT_LATCH from power-up until the first transmit: any byte (R54). Entry 7. -/
opaque Config.outLatchPowerUp : Byte

/-- The value of the n-th sample of the button-common line where the environment has lined up none (R65). Entry 3. -/
opaque Config.btnDraw : Nat → Bool

/-- The n-th pair (A, B) of encoder samples where the environment has lined up none (R65). Entry 3. -/
opaque Config.encDraw : Nat → Bool × Bool

/-- Which handler the environment starts at the n-th turn of the idle loop with no command lined up: none or one of the
two (R238, R239). Entry 2. -/
opaque Config.envEvent : Nat → Option IrqSource

/-- NOMV[c] in hundredths of the source's conceptual unit: 1.2, 5.0, 3.37 (R8). Informational: no rule computes with
it (R201). -/
def Config.nomv : Channel → Nat
  | 0 => 120
  | 1 => 500
  | 2 => 337

end Sys2Proof
end

