-- ==== Sys2Proof/Machine/State.lean ====
section
/-!
DEFINITION. The state of the block as plain data (spec/10_state.md), the refusal reasons (spec/60_exceptions.md R232), and
the state after reset (R50 to R58). INVENTORY.md lists each field with its rule.
-/

namespace Sys2Proof.Machine

/-- CTX, which context is running (R30). -/
inductive Ctx where
  /-- After power-up and before INIT has completed. -/
  | boot
  /-- The foreground idle loop: the only value at which an operation can start. -/
  | idle
  /-- Inside the handler of a button-line edge. -/
  | hBtn
  /-- Inside the handler of an encoder-A-line edge. -/
  | hEnc
  deriving DecidableEq, Repr, Inhabited

/-- QST, where the quadrature decoder is in its wait sequence (R31, R156). -/
inductive QState where
  | idle
  /-- First wait, clockwise: until the combination (1,0) clears. -/
  | cwWaitCombo
  /-- Second wait, clockwise: until line B deasserts. -/
  | waitLineBRelease
  /-- First wait, counter-clockwise: until the combination (0,1) clears. -/
  | ccwWaitCombo
  /-- Second wait, counter-clockwise: until line A deasserts. -/
  | waitLineARelease
  deriving DecidableEq, Repr, Inhabited

/-- A duty-cycle, 0..100 (R8, R22, R27): the other codes of the seven bits do not exist (U16). -/
abbrev Duty := Fin 101

/-- The output events of R18. RENDER carries the snapshot (SEL, EN[SEL], DUTY) that R220 offers; entry 14. -/
inductive Event where
  /-- `TX(v)`: one transmit and latch (R14). -/
  | tx (v : Byte)
  /-- `PWMW(v)`: one write of the compare register (R16). -/
  | pwmw (v : Duty)
  /-- `RENDER`: a display refresh (R16, R220). -/
  | render (sel : Channel) (en : Bool) (duty : Duty)
  /-- `ACK`: button 0's placeholder acknowledgement (R16, R207). -/
  | ack
  deriving DecidableEq, Repr

/-- A value handed to the caller of ORB.RD, SCAN or QDEC (R104). -/
inductive Returned where
  /-- Nothing has been returned since power-up. -/
  | nothing
  /-- ORB.RD's byte. -/
  | byte (v : Byte)
  /-- SCAN's `Option<ButtonId>`. -/
  | button (b : Option ButtonId)
  /-- QDEC's RotationEvent. -/
  | rotation (d : Rotation)
  deriving DecidableEq, Repr

/-- The block raises no exception and has no trap (R230): there is no fault. Entry 21. -/
inductive Fault where
  deriving DecidableEq, Repr

/-- The refusal reasons of R232. A refused operation changes no register and emits no event; each is safe (no claim is
made about the refused run). -/
inductive Refusal where
  /-- An instruction with no meaning in the model; raised by no arm of `exec`. Safe. -/
  | notModelled (mnemonic : String)
  /-- The command byte names no operation: raised by `step` when it decodes a command (R106). Safe. -/
  | reservedCommand
  /-- Channel 3: raised by the decoder and by ORB.SET and TOGGLE (R107). Safe. -/
  | badChannel
  /-- Rotation code 0b10: raised by the decoder and by EV.ROT (R107). Safe. -/
  | badRotation
  /-- CTX does not have the value the operation needs and is not BOOT (R236); QDEC and IRQ.ENC also raise it where
  QST is not Idle (entry 12). Safe. -/
  | notIdle
  /-- ORB.SET, TOGGLE, SCAN, or an operation that contains one of them, started while SCAN_ACTIVE = 1 (R146). Safe. -/
  | scanInProgress
  /-- An operation other than INIT started while CTX = BOOT (R236). Safe. -/
  | notBooted
  deriving DecidableEq, Repr

/-- The state of the block. The fields from `en` to `trace` are the spec's (spec/10_state.md, R18); those after are
the model's own (INVENTORY.md, entries 1, 2, 3, 13). -/
structure State where
  /-- EN[0..2] (R21). -/
  en : Vector Bool 3
  /-- DUTY, the stored duty-cycle (R22). -/
  duty : Duty
  /-- SEL, the selected channel (R23). -/
  sel : Channel
  /-- ORB, the authoritative output byte (R25). -/
  orb : Byte
  /-- OUT_LATCH, the byte on the latched outputs (R28). -/
  outLatch : Byte
  /-- PWM_CMP, the live duty value (R27). -/
  pwmCmp : Duty
  /-- CTX (R30). -/
  ctx : Ctx
  /-- QST (R31). -/
  qst : QState
  /-- SCAN_ACTIVE (R32). -/
  scanActive : Bool
  /-- SCAN_I, 0..4 (R32). -/
  scanI : Fin 5
  /-- HIT (R33). -/
  hit : Option ButtonId
  /-- The event trace, oldest first (R18). -/
  trace : List Event
  /-- The model's own: the transmit of the present SCAN_I has been made (R138's numbered lines). -/
  scanSent : Bool
  /-- The model's own: the value most recently handed to the caller (R104). -/
  result : Returned
  /-- The model's own: the command bytes the environment has lined up, next first (R112). -/
  cmds : List Byte
  /-- The model's own: the button-line samples the environment has lined up, next first (R112). -/
  btnIn : List Bool
  /-- The model's own: the encoder samples (A, B) the environment has lined up, next first (R112). -/
  encIn : List (Bool × Bool)
  /-- The model's own: the pair the encoder lines keep for ever after `encIn` (a stuck contact, R166), or `none` for free
  draws. -/
  encHeld : Option (Bool × Bool)
  /-- The model's own: how many button-line samples have been taken. -/
  btnTaken : Nat
  /-- The model's own: how many encoder samples have been taken. -/
  encTaken : Nat
  /-- The model's own: how many turns the idle loop has made with no command lined up. -/
  idleTurns : Nat
  deriving DecidableEq, Repr

/-- What a step or an operation answers. -/
abbrev Answer := Host.Outcome State Fault Refusal

/-- Power-up: CTX = BOOT (R56) and the reset values of spec/10_state.md (R50 to R58). Entries 6, 7, 8. -/
def State.reset : State where
  en := #v[false, false, false]
  duty := 0
  sel := 0
  orb := Config.ind.setWidth 8 <<< 3
  outLatch := Config.outLatchPowerUp
  pwmCmp := 0
  ctx := .boot
  qst := .idle
  scanActive := false
  scanI := 0
  hit := none
  trace := []
  scanSent := false
  result := .nothing
  cmds := []
  btnIn := []
  encIn := []
  encHeld := none
  btnTaken := 0
  encTaken := 0
  idleTurns := 0

end Sys2Proof.Machine
end

