-- ==== Sys2Proof/Machine/Operands.lean ====
section
/-!
DEFINITION. Operand assembly (spec/30_encoding.md R102), the data encodings (R90 to R97) and the block's whole arithmetic
(spec/43_regulator_bank_pwm.md R200).
-/

namespace Sys2Proof.Machine

/-- ADJ_CH, the adjustable channel (R7). -/
def adjCh : Channel := 0

/-- The channel an N field names; 3 names none (R97, R102). -/
def channelOf (n : BitVec 2) : Option Channel :=
  if h : n.toNat < 3 then some ⟨n.toNat, h⟩ else none

/-- The RotationEvent an N field encodes: the two's-complement delta of R96; 0b10 is reserved. -/
def rotationOf (n : BitVec 2) : Option Rotation :=
  if n = 0#2 then some .none
  else if n = 1#2 then some .clockwise
  else if n = 3#2 then some .counterClockwise
  else none

/-- R96: None = 0b00, Clockwise = 0b01, CounterClockwise = 0b11. -/
def rotationBits : Rotation → BitVec 2
  | .none => 0#2
  | .clockwise => 1#2
  | .counterClockwise => 3#2

/-- R95: bit 2 = valid, bits 1:0 = ButtonId; None = 0b000. -/
def buttonBits : Option ButtonId → BitVec 3
  | none => 0#3
  | some b => 1#1 ++ (BitVec.ofFin b : BitVec 2)

/-- EN_BIT(c) = 2 - c, the place of channel c's enable bit in the output byte (R90). -/
def enBit (c : Channel) : Nat := 2 - c.val

/-- ENMASK(c) = 1 << (2 - c) (R90). -/
def enMask (c : Channel) : Byte := 1#8 <<< enBit c

/-- The output byte with channel c's enable bit assigned v (R122). -/
def assignEnable (c : Channel) (v : Bool) (orb : Byte) : Byte :=
  if v then orb ||| enMask c else orb &&& ~~~ enMask c

/-- SCANPAT[i] = 0x10 << i (R93). -/
def scanPat (i : ButtonId) : Byte := 0x10#8 <<< i.val

/-- CAND(i) = SCANPAT[i] | (ORB & 0x0F) (R93). -/
def candidate (i : ButtonId) (orb : Byte) : Byte := scanPat i ||| (orb &&& 0x0F#8)

/-- IND << 3, the startup value of ORB (R53). -/
def startupByte (ind : BitVec 5) : Byte := ind.setWidth 8 <<< 3

/-- Bits 7:3 of an output byte, the indicator bits (R25). -/
def indicatorBits (v : Byte) : BitVec 5 := v.extractLsb' 3 5

/-- Bits 7:4 of an output byte, the four scan lines (R62). -/
def scanLines (v : Byte) : BitVec 4 := v.extractLsb' 4 4

/-- Bits 3:0 of an output byte, the bits a scan preserves (R91). -/
def keptBits (v : Byte) : BitVec 4 := v.extractLsb' 0 4

/-- The enable line of channel c on an output byte (R62, R90). -/
def enableLine (c : Channel) (v : Byte) : Bool := v.getLsbD (enBit c)

/-- (SEL + 1) mod 3 (R182, R200). -/
def nextChannel (sel : Channel) : Channel := if sel = 2 then 0 else sel + 1

/-- `ADJ +` on DUTY: one up unless it is 100 (R190 step A1, R191). -/
def incDuty (d : Duty) : Duty := if h : d.val < 100 then ⟨d.val + 1, by omega⟩ else d

/-- `ADJ -` on DUTY: one down unless it is 0 (R190 step A1, R191). -/
def decDuty (d : Duty) : Duty := if d.val > 0 then ⟨d.val - 1, by omega⟩ else d

/-- R190 step A1. -/
def adjustDuty (inc : Bool) (d : Duty) : Duty := if inc then incDuty d else decDuty d

end Sys2Proof.Machine
end

