-- ==== Sys2Proof/Machine/Flags.lean ====
section
/-!
DEFINITION. The block's flags. There is one, HIT (spec/10_state.md R33): no carry, zero, overflow or status register, and
saturation sets nothing (R35). The decoder's wait conditions, which are tests of a sample, stand here too
(spec/42_quadrature_decoder.md R157, R160).
-/

namespace Sys2Proof.Machine

/-- Step S2.i on HIT: an asserted sample overwrites an earlier hit (R138, R141). -/
def recordHit (sample : Bool) (i : ButtonId) (hit : Option ButtonId) : Option ButtonId :=
  if sample then some i else hit

/-- Whether the wait of a decoder state ends on the sample (a, b) (R160). Idle is no wait and ends on every sample. -/
def waitEnds (q : QState) (ab : Bool × Bool) : Bool :=
  match q with
  | .idle => true
  | .cwWaitCombo => !(ab.1 && !ab.2)
  | .waitLineBRelease => !ab.2
  | .ccwWaitCombo => !(ab.2 && !ab.1)
  | .waitLineARelease => !ab.1

end Sys2Proof.Machine
end

