-- ==== Sys2Proof/Machine/Ops.lean ====
section
/-!
DEFINITION. The named operations that the meanings share: the primitives Tx, PwmWrite, Render, Ack, SampleBtn and
SampleEnc (spec/00_scope.md R14 to R16), access to EN, the guards of spec/60_exceptions.md R232 and R236, entering a
handler and returning from it (R242, R243), and lining up a command (spec/30_encoding.md R112).
-/

namespace Sys2Proof.Machine

/-- Appends one output event to the trace (R18). -/
def emit (e : Event) (s : State) : State := { s with trace := s.trace ++ [e] }

/-- `Tx(v)`: OUT_LATCH <- v, event TX(v) (R14). -/
def tx (v : Byte) (s : State) : State := emit (.tx v) { s with outLatch := v }

/-- `PwmWrite(v)`: PWM_CMP <- v, event PWMW(v) (R16). -/
def pwmWrite (v : Duty) (s : State) : State := emit (.pwmw v) { s with pwmCmp := v }

/-- `Render()`: event RENDER, with the snapshot (SEL, EN[SEL], DUTY) of R220 (R16). -/
def render (s : State) : State := emit (.render s.sel s.en[s.sel] s.duty) s

/-- `Ack()`: event ACK (R16). -/
def acknowledge (s : State) : State := emit .ack s

/-- EN[c] <- v (R12, R21). -/
def setEn (c : Channel) (v : Bool) (s : State) : State := { s with en := s.en.set c v }

/-- Hands a value to the caller (R104). Entry 13. -/
def handBack (r : Returned) (s : State) : State := { s with result := r }

/-- The k-th sample of the button-common line from now on: lined up by the environment, else a free draw (R65). -/
def btnAt (s : State) (k : Nat) : Bool := (s.btnIn[k]?).getD (Config.btnDraw (s.btnTaken + k))

/-- The k-th pair (A, B) of encoder samples from now on: lined up by the environment, else the pair the lines are stuck at
(R166), else a free draw (R65). -/
def encAt (s : State) (k : Nat) : Bool × Bool :=
  (s.encIn[k]?).getD (s.encHeld.getD (Config.encDraw (s.encTaken + k)))

/-- `SampleBtn()` has taken its sample, which was `btnAt s 0` (R15). -/
def dropBtn (s : State) : State := { s with btnIn := s.btnIn.tail, btnTaken := s.btnTaken + 1 }

/-- `SampleEnc()` has taken its pair, which was `encAt s 0` (R15). -/
def dropEnc (s : State) : State := { s with encIn := s.encIn.tail, encTaken := s.encTaken + 1 }

/-- Entry of a handler changes CTX only and saves nothing (R242). -/
def enterHandler (c : Ctx) (s : State) : State := { s with ctx := c }

/-- Return from a handler, and the end of startup: CTX <- IDLE (R243, R260). -/
def returnToIdle (s : State) : State := { s with ctx := .idle }

/-- An operation other than INIT starts only when CTX = IDLE: not_booted in BOOT, not_idle in a handler (R236). -/
def whenIdle (s : State) (k : Answer) : Answer :=
  match s.ctx with
  | .boot => .refused .notBooted
  | .idle => k
  | .hBtn => .refused .notIdle
  | .hEnc => .refused .notIdle

/-- INIT starts only when CTX = BOOT (R236, R260). -/
def whenBoot (s : State) (k : Answer) : Answer :=
  match s.ctx with
  | .boot => k
  | .idle => .refused .notIdle
  | .hBtn => .refused .notIdle
  | .hEnc => .refused .notIdle

/-- ORB.SET, TOGGLE and SCAN start only when SCAN_ACTIVE = 0 (R146). -/
def whenNoScan (s : State) (k : Answer) : Answer :=
  if s.scanActive then .refused .scanInProgress else k

/-- QDEC starts only when QST = Idle (R157); the reason is entry 12's. -/
def whenDecoderIdle (s : State) (k : Answer) : Answer :=
  if s.qst = .idle then k else .refused .notIdle

/-- An operand that must name a channel (R107). -/
def withChannel (n : BitVec 2) (k : Channel → Answer) : Answer :=
  match channelOf n with
  | some c => k c
  | none => .refused .badChannel

/-- An operand that must be a RotationEvent (R107). -/
def withRotation (n : BitVec 2) (k : Rotation → Answer) : Answer :=
  match rotationOf n with
  | some d => k d
  | none => .refused .badRotation

/-- The refusal a decode error stands for (R106, R107). -/
def refusalOf : DecodeError → Refusal
  | .reservedCommand => .reservedCommand
  | .badChannel => .badChannel
  | .badRotation => .badRotation

/-- The value CTX must have for a command to start (R236): BOOT for INIT, IDLE for every other. -/
def startCtx (b : Byte) : Ctx :=
  match decode b with
  | .ok .init => .boot
  | _ => .idle

/-- The state with command `b` next and nothing in progress: what a program's load does outside the machine. Entry 10. -/
def placeCommand (b : Byte) (s : State) : State :=
  { s with cmds := b :: s.cmds, ctx := startCtx b, qst := .idle, scanActive := false }

end Sys2Proof.Machine
end

