-- ==== Sys2Proof/Machine/OutputRegister.lean ====
section
/-!
DEFINITION. The Output Register Model: ORB.RD and ORB.SET (spec/40_output_register.md).
-/

namespace Sys2Proof.Machine

/-- ORB.RD: returns ORB and changes no register (R121). -/
def execOrbRd (s : State) : Answer :=
  whenIdle s (.next (handBack (.byte s.orb) s))

/-- The effect of ORB.SET c, v: ORB[2 - c] is assigned v, then one transmit of the new ORB, always (R122, R124). -/
def orbSet (c : Channel) (v : Bool) (s : State) : State :=
  tx (assignEnable c v s.orb) { s with orb := assignEnable c v s.orb }

/-- ORB.SET c, v (R122). -/
def execOrbSet (c : BitVec 2) (v : Bool) (s : State) : Answer :=
  withChannel c fun ch => whenIdle s (whenNoScan s (.next (orbSet ch v s)))

end Sys2Proof.Machine
end

