-- ==== Sys2Proof/Machine/RegulatorBank.lean ====
section
/-!
DEFINITION. The Regulator Bank with the PWM duty register and its update synchronizer: SELNEXT, TOGGLE, ADJ
(spec/43_regulator_bank_pwm.md).
-/

namespace Sys2Proof.Machine

/-- The effect of SELNEXT: SEL <- (SEL + 1) mod 3, no event (R182). -/
def selNext (s : State) : State := { s with sel := nextChannel s.sel }

/-- SELNEXT (R182). -/
def execSelnext (s : State) : Answer := whenIdle s (.next (selNext s))

/-- Step T3 of TOGGLE: the compare register follows the adjustable channel's new flag (R186, R196). -/
def toggleSync (c : Channel) (s : State) : State :=
  if c = adjCh then (if s.en[c] then pwmWrite s.duty s else pwmWrite 0 s) else s

/-- The effect of TOGGLE c, in the order T1, T2, T3 (R186). -/
def togglePower (c : Channel) (s : State) : State :=
  toggleSync c (orbSet c (!s.en[c]) (setEn c (!s.en[c]) s))

/-- TOGGLE c (R186). -/
def execToggle (c : BitVec 2) (s : State) : Answer :=
  withChannel c fun ch => whenIdle s (whenNoScan s (.next (togglePower ch s)))

/-- Step A2 of ADJ: an enabled channel's compare register takes the new duty, also a clamped one (R190, R192). -/
def adjustSync (s : State) : State := if s.en[adjCh] then pwmWrite s.duty s else s

/-- The effect of ADJ inc: nothing unless the selected channel is the adjustable one (R190, R194). -/
def adjust (inc : Bool) (s : State) : State :=
  if s.sel = adjCh then adjustSync { s with duty := adjustDuty inc s.duty } else s

/-- ADJ inc (R190). -/
def execAdj (inc : Bool) (s : State) : Answer := whenIdle s (.next (adjust inc s))

end Sys2Proof.Machine
end

