-- ==== Sys2Proof/Machine/Events.lean ====
section
/-!
DEFINITION. The Control Dispatcher's transition table: EV.BTN and EV.ROT (spec/44_control_dispatcher.md R205).
-/

namespace Sys2Proof.Machine

/-- The effect of EV.BTN b (R206 to R210). -/
def buttonEvent (b : ButtonId) (s : State) : State :=
  match b with
  | 0 => acknowledge s
  | 1 => render (selNext s)
  | 2 => s
  | 3 => render (togglePower s.sel s)

/-- EV.BTN b (R206). Button 3 contains TOGGLE and is refused where TOGGLE is (R146). -/
def execEvBtn (b : ButtonId) (s : State) : Answer :=
  whenIdle s (if b = 3 then whenNoScan s (.next (buttonEvent b s)) else .next (buttonEvent b s))

/-- The effect of EV.ROT d (R212 to R215). -/
def rotationEvent (d : Rotation) (s : State) : State :=
  match d with
  | .none => s
  | .clockwise => if s.sel = adjCh then render (adjust true s) else s
  | .counterClockwise => if s.sel = adjCh then render (adjust false s) else s

/-- EV.ROT d (R212). -/
def execEvRot (d : BitVec 2) (s : State) : Answer :=
  withRotation d fun r => whenIdle s (.next (rotationEvent r s))

end Sys2Proof.Machine
end

