-- ==== Sys2Proof/Machine/Quadrature.lean ====
section
/-!
DEFINITION. The Quadrature Decoder with debounce: QDEC (spec/42_quadrature_decoder.md R157), one sample per step. `exec`
takes the entry sample; the samples after it are taken by `decoderLine`, one at each step, for as long as a wait lasts.
-/

namespace Sys2Proof.Machine

/-- The state after one sample (a, b), and the RotationEvent where the call returns on it (R157, R158, R160). -/
def decoderNext (q : QState) (ab : Bool × Bool) : QState × Option Rotation :=
  match q with
  | .idle =>
    if ab.1 && !ab.2 then (.cwWaitCombo, none)
    else if ab.2 && !ab.1 then (.ccwWaitCombo, none)
    else (.idle, some .none)
  | .cwWaitCombo => if waitEnds q ab then (.waitLineBRelease, none) else (q, none)
  | .waitLineBRelease => if waitEnds q ab then (.idle, some .clockwise) else (q, none)
  | .ccwWaitCombo => if waitEnds q ab then (.waitLineARelease, none) else (q, none)
  | .waitLineARelease => if waitEnds q ab then (.idle, some .counterClockwise) else (q, none)

/-- What the caller does with QDEC's result: the handler dispatches it and returns, storing it nowhere (R34, R241); a
test bench is handed it (R104). -/
def decoderReturn (d : Option Rotation) (s : State) : State :=
  match d with
  | none => s
  | some e => if s.ctx = .hEnc then returnToIdle (rotationEvent e s) else handBack (.rotation e) s

/-- One `SampleEnc()` of QDEC and what follows from it (R157). -/
def decoderLine (s : State) : State :=
  decoderReturn (decoderNext s.qst (encAt s 0)).2 { dropEnc s with qst := (decoderNext s.qst (encAt s 0)).1 }

/-- QDEC (R157): the entry sample Q0; `decoderLine` takes the rest. -/
def execQdec (s : State) : Answer :=
  whenIdle s (whenDecoderIdle s (.next (decoderLine s)))

end Sys2Proof.Machine
end

