-- ==== Sys2Proof/Machine/Scanner.lean ====
section
/-!
DEFINITION. The Button Scanner: SCAN (spec/41_button_scanner.md R138), one numbered line per step. `exec` runs line S0; the
lines after it are run by `scanLine`, one at each step.
-/

namespace Sys2Proof.Machine

/-- Line S0 (R138). -/
def scanStart (s : State) : State :=
  { s with scanActive := true, scanI := 0, hit := none, scanSent := false }

/-- Line S1.i: transmits CAND(i) (R138). -/
def scanSend (i : ButtonId) (s : State) : State :=
  { tx (candidate i s.orb) s with scanSent := true }

/-- Line S2.i: one sample; an asserted one is recorded; the loop moves on whatever it was (R138, R139). -/
def scanSample (i : ButtonId) (s : State) : State :=
  { dropBtn s with hit := recordHit (btnAt s 0) i s.hit, scanI := i.succ, scanSent := false }

/-- Line S3: the restoring transmit of all eight bits of ORB (R94, R138). -/
def scanRestore (s : State) : State :=
  { tx s.orb s with scanSent := true }

/-- Line S4 and `return HIT`: a scan that a test bench started hands HIT back, a handler's scan leaves it in HIT for
the dispatch (R104, R138, R240). -/
def scanEnd (s : State) : State :=
  { s with
    scanActive := false
    scanI := 0
    scanSent := false
    result := if s.ctx = .idle then .button s.hit else s.result }

/-- The line of SCAN that SCAN_I and `scanSent` say is next (R138). -/
def scanLine (s : State) : State :=
  if h : s.scanI.val < 4 then
    if s.scanSent then scanSample ⟨s.scanI.val, h⟩ s else scanSend ⟨s.scanI.val, h⟩ s
  else
    if s.scanSent then scanEnd s else scanRestore s

/-- SCAN (R138): line S0; `scanLine` runs the rest. -/
def execScan (s : State) : Answer :=
  whenIdle s (whenNoScan s (.next (scanStart s)))

end Sys2Proof.Machine
end

