-- ==== Sys2Proof/Machine/Interrupt.lean ====
section
/-!
DEFINITION. The handlers IRQ.BTN and IRQ.ENC and the idle operation NOP (spec/60_exceptions.md R240, R241, R246).
-/

namespace Sys2Proof.Machine

/-- IRQ.BTN (R240): CTX <- H_BTN and line S0 of SCAN; the scan's other lines and the dispatch follow step by step. -/
def execIrqBtn (s : State) : Answer :=
  whenIdle s (whenNoScan s (.next (scanStart (enterHandler .hBtn s))))

/-- The end of IRQ.BTN: EV.BTN on a hit, nothing on None, then the return (R240, R243). -/
def buttonHandlerEnd (s : State) : State :=
  match s.hit with
  | some b => returnToIdle (buttonEvent b s)
  | none => returnToIdle s

/-- IRQ.ENC (R241): CTX <- H_ENC and QDEC's entry sample; the waits, EV.ROT and the return follow sample by sample. -/
def execIrqEnc (s : State) : Answer :=
  whenIdle s (whenDecoderIdle s (.next (decoderLine (enterHandler .hEnc s))))

/-- NOP (R246): one turn of the empty idle loop, no effect. -/
def execNop (s : State) : Answer := whenIdle s (.next s)

end Sys2Proof.Machine
end

