-- ==== Sys2Proof/Machine/Startup.lean ====
section
/-!
DEFINITION. The startup operation INIT (spec/70_reset_and_hazards.md R260).
-/

namespace Sys2Proof.Machine

/-- INIT's register writes before its first output (R260). -/
def initRegisters (ind : BitVec 5) (s : State) : State :=
  { s with
    en := #v[false, false, false]
    duty := 0
    sel := 0
    orb := startupByte ind
    qst := .idle
    scanActive := false
    scanI := 0
    hit := none
    scanSent := false }

/-- The effect of INIT for a chip whose indicator constant is `ind`, in the order of R260. -/
def startup (ind : BitVec 5) (s : State) : State :=
  returnToIdle (render (pwmWrite 0 (tx (startupByte ind) (initRegisters ind s))))

/-- INIT (R260). -/
def execInit (s : State) : Answer := whenBoot s (.next (startup Config.ind s))

end Sys2Proof.Machine
end

