-- ==== Sys2Proof/Machine/Sequencer.lean ====
section
/-!
DEFINITION. The sequencer (spec/10_state.md R29): what CTX, QST and SCAN_ACTIVE say is in progress, the line that is run
next, and, at an operation boundary, what the environment starts (spec/60_exceptions.md R236, R238).
-/

namespace Sys2Proof.Machine

/-- What the machine does next. -/
inductive Activity where
  /-- No operation is in progress: the next one is started. -/
  | boundary
  /-- SCAN is at a line after S0. -/
  | scanning
  /-- QDEC takes a sample. -/
  | decoding
  /-- IRQ.BTN's scan has returned and its result is dispatched. -/
  | dispatching
  deriving DecidableEq, Repr

/-- R29: the sequencer registers tell what is in progress. In IDLE a scan or a decode was started by a test bench
(R100, D29). Entry 16 for the combinations no run reaches. -/
def activity (s : State) : Activity :=
  match s.ctx with
  | .boot => .boundary
  | .idle => if s.qst ≠ .idle then .decoding else if s.scanActive then .scanning else .boundary
  | .hBtn => if s.scanActive then .scanning else .dispatching
  | .hEnc => .decoding

/-- The handler of an interrupt source (R234). -/
def handlerOf : Option IrqSource → Instr
  | none => .nop
  | some .btn => .irqBtn
  | some .enc => .irqEnc

/-- The operation started at a boundary, and the state without its command: the next command lined up; with none lined
up, INIT at power-up (R248, entry 9) and at IDLE what the environment freely starts (R238, entry 2). -/
def fetch (s : State) : Except DecodeError Instr × State :=
  match s.cmds with
  | b :: rest => (decode b, { s with cmds := rest })
  | [] =>
    if s.ctx = .boot then (.ok .init, s)
    else (.ok (handlerOf (Config.envEvent s.idleTurns)), { s with idleTurns := s.idleTurns + 1 })

/-- One line of the operation in progress; at a boundary there is none. -/
def runLine (a : Activity) (s : State) : State :=
  match a with
  | .boundary => s
  | .scanning => scanLine s
  | .decoding => decoderLine s
  | .dispatching => buttonHandlerEnd s

end Sys2Proof.Machine
end

