-- ==== Sys2Proof/Machine/Dispatch.lean ====
section
/-!
DEFINITION. `exec`: one arm per operation (spec/30_encoding.md R100).
-/

namespace Sys2Proof.Machine

def exec (i : Instr) (s : State) : Host.Outcome State Fault Refusal :=
  match i with
  | .orbRd => Sys2Proof.Machine.execOrbRd s
  | .orbSet c v => Sys2Proof.Machine.execOrbSet c v s
  | .scan => Sys2Proof.Machine.execScan s
  | .qdec => Sys2Proof.Machine.execQdec s
  | .selnext => Sys2Proof.Machine.execSelnext s
  | .toggle c => Sys2Proof.Machine.execToggle c s
  | .adj inc => Sys2Proof.Machine.execAdj inc s
  | .evBtn b => Sys2Proof.Machine.execEvBtn b s
  | .evRot d => Sys2Proof.Machine.execEvRot d s
  | .irqBtn => Sys2Proof.Machine.execIrqBtn s
  | .irqEnc => Sys2Proof.Machine.execIrqEnc s
  | .nop => Sys2Proof.Machine.execNop s
  | .init => Sys2Proof.Machine.execInit s

end Sys2Proof.Machine
end

