-- ==== Sys2Proof/Machine/Step.lean ====
section
/-!
DEFINITION. One step of the block: the next line of the operation in progress, or, at an operation boundary, the start of
the next operation (spec/20_memory.md R75, spec/60_exceptions.md R236, spec/70_reset_and_hazards.md R266).
-/

namespace Sys2Proof.Machine

/-- Starts the operation fetched, or refuses its command by name (R106, R107). -/
def start (f : Except DecodeError Instr × State) : Host.Outcome State Fault Refusal :=
  match f.1 with
  | .ok i => exec i f.2
  | .error e => .refused (refusalOf e)

/-- One step: nothing starts while an operation is in progress (R266). -/
def step (s : State) : Host.Outcome State Fault Refusal :=
  match activity s with
  | .boundary => start (fetch s)
  | .scanning => .next (runLine .scanning s)
  | .decoding => .next (runLine .decoding s)
  | .dispatching => .next (runLine .dispatching s)

/-- The state whose next step starts the command `w`: what a program's load does from outside the machine (entry 10). -/
def State.withFetchWord (s : State) (_nbits w : Nat) : State := placeCommand (BitVec.ofNat 8 w) s

end Sys2Proof.Machine
end

