-- ==== Sys2Proof/Safety.lean ====
section
/-!
DEFINITION. The words claims are stated in: runs of several steps, operation boundaries, the invariants of
spec/10_state.md R40 and R41, and the environment assumptions of spec/20_memory.md R66 and R67.
-/

namespace Sys2Proof.Machine

/-- `n` steps lead from `s` to `t`, none of them refused. -/
def stepsTo : Nat → State → State → Prop
  | 0, s, t => s = t
  | n + 1, s, t => ∃ u, step s = .next u ∧ stepsTo n u t

/-- An operation boundary (R19, R40): CTX = IDLE and no operation in progress. -/
abbrev Ready (s : State) : Prop := s.ctx = .idle ∧ s.qst = .idle ∧ s.scanActive = false

/-- Where a command can be started or refused: power-up or an operation boundary. -/
abbrev Startable (s : State) : Prop := s.ctx = .boot ∨ Ready s

/-- I1 of R40: the enable bits of ORB mirror EN. -/
abbrev Mirrored (s : State) : Prop := ∀ c : Channel, enableLine c s.orb = s.en[c]

/-- I4 of R40, the synchronizer rule of R196: PWM_CMP is DUTY when the adjustable channel is enabled, else 0. -/
abbrev Synced (s : State) : Prop := s.pwmCmp = if s.en[adjCh] then s.duty else 0

/-- The byte OUT_LATCH must hold: ORB when no scan is in progress (I3 of R40); in a scan, the candidate byte last
transmitted, ORB before the first transmit and after the restore (R41, and spec/90_conflicts.md C7: a function of ORB and
the step). -/
def latchByte (s : State) : Byte :=
  if s.scanActive then
    if s.scanSent then
      (if h : s.scanI.val < 4 then candidate ⟨s.scanI.val, h⟩ s.orb else s.orb)
    else
      (if h : 0 < s.scanI.val then candidate ⟨s.scanI.val - 1, by omega⟩ s.orb else s.orb)
  else s.orb

/-- The sequencer registers agree (I6 of R40, R57, R58): a scan runs in a button handler or started by a test bench, a
decode in an encoder handler or started by a test bench, never both, and outside a scan SCAN_I is 0. -/
abbrev SequencerOk (s : State) : Prop :=
  (s.ctx = .idle → s.qst = .idle ∨ s.scanActive = false) ∧
  (s.ctx = .hBtn → s.qst = .idle) ∧
  (s.ctx = .hEnc → s.qst ≠ .idle ∧ s.scanActive = false) ∧
  (s.scanActive = false → s.scanI = 0 ∧ s.scanSent = false)

/-- R40 and R41 without I1, which a direct ORB.SET may break (R126): after startup, every step keeps it. -/
abbrev Inv (s : State) : Prop :=
  s.ctx = .boot ∨
    (indicatorBits s.orb = Config.ind ∧ s.outLatch = latchByte s ∧ Synced s ∧ SequencerOk s)

/-- No command lined up is an ORB.SET: the enable state is changed through TOGGLE only (R40, R126). -/
abbrev NoDirectSet (s : State) : Prop := ∀ b ∈ s.cmds, ∀ c v, decode b ≠ .ok (.orbSet c v)

/-- I1 after startup, for a machine whose enable state is changed through TOGGLE only (R40). -/
abbrev MirrorInv (s : State) : Prop := NoDirectSet s ∧ (s.ctx = .boot ∨ Mirrored s)

/-- SCAN's next line is S2.i, which samples the button line (R138). -/
abbrev Sampling (s : State) : Prop := s.scanActive = true ∧ s.scanSent = true ∧ s.scanI.val < 4

/-- E-PANEL (R66), a premise: with the buttons of `pressed` held down, a sample taken while the scan lines carry the
pattern of button i is asserted exactly if i is held. -/
abbrev EPanel (pressed : ButtonId → Bool) (s : State) : Prop :=
  Sampling s → ∀ i : ButtonId, scanLines s.outLatch = scanLines (scanPat i) → btnAt s 0 = pressed i

/-- E-PULSE (R67), a premise: every busy-wait eventually takes a sample that ends it. -/
abbrev EPulse (s : State) : Prop := ∀ (q : QState) (n : Nat), ∃ k, n ≤ k ∧ waitEnds q (encAt s k) = true

/-- The highest-numbered button of a set of four (R141). -/
def highest (p : ButtonId → Bool) : Option ButtonId :=
  if p 3 then some 3 else if p 2 then some 2 else if p 1 then some 1 else if p 0 then some 0 else none

end Sys2Proof.Machine
end

