-- ==== Sys2Proof/Certificates/Slice0/Obligations.lean ====
section
/-!
DEFINITION. The statements about the model, each a `def Obligations.<Name> : Prop`. Where a statement speaks of a field
that is the model's own (`cmds`, `btnIn`, `encIn`, `result`, `scanSent`, the counters, the snapshot of RENDER), its
docstring names the log entry.
-/

open Sys2Proof Sys2Proof.Machine

/-! Encoding -/

/-- The legal bytes of the table of R103, each written out, decode to the operation they stand for. -/
def Obligations.SpecBytesDecode : Prop :=
  decode 0b00000000#8 = .ok .orbRd ∧
  decode 0b00010000#8 = .ok (.orbSet 0#2 false) ∧ decode 0b00010001#8 = .ok (.orbSet 1#2 false) ∧
  decode 0b00010010#8 = .ok (.orbSet 2#2 false) ∧ decode 0b00010100#8 = .ok (.orbSet 0#2 true) ∧
  decode 0b00010101#8 = .ok (.orbSet 1#2 true) ∧ decode 0b00010110#8 = .ok (.orbSet 2#2 true) ∧
  decode 0b00100000#8 = .ok .scan ∧ decode 0b00110000#8 = .ok .qdec ∧ decode 0b01000000#8 = .ok .selnext ∧
  decode 0b01010000#8 = .ok (.toggle 0#2) ∧ decode 0b01010001#8 = .ok (.toggle 1#2) ∧
  decode 0b01010010#8 = .ok (.toggle 2#2) ∧
  decode 0b01100000#8 = .ok (.adj false) ∧ decode 0b01100100#8 = .ok (.adj true) ∧
  decode 0b01110000#8 = .ok (.evBtn 0) ∧ decode 0b01110001#8 = .ok (.evBtn 1) ∧
  decode 0b01110010#8 = .ok (.evBtn 2) ∧ decode 0b01110011#8 = .ok (.evBtn 3) ∧
  decode 0b10000000#8 = .ok (.evRot 0#2) ∧ decode 0b10000001#8 = .ok (.evRot 1#2) ∧
  decode 0b10000011#8 = .ok (.evRot 3#2) ∧
  decode 0b10010000#8 = .ok .irqBtn ∧ decode 0b10100000#8 = .ok .irqEnc ∧
  decode 0b11100000#8 = .ok .nop ∧ decode 0b11110000#8 = .ok .init

/-- The codes of R95 and R96: the five values of `Option<ButtonId>` and the three of RotationEvent, and which
two-bit patterns are a RotationEvent. -/
def Obligations.ResultCodes : Prop :=
  buttonBits none = 0b000#3 ∧ buttonBits (some 0) = 0b100#3 ∧ buttonBits (some 1) = 0b101#3 ∧
  buttonBits (some 2) = 0b110#3 ∧ buttonBits (some 3) = 0b111#3 ∧
  rotationOf 0b00#2 = some .none ∧ rotationOf 0b01#2 = some .clockwise ∧
  rotationOf 0b11#2 = some .counterClockwise ∧ rotationOf 0b10#2 = none ∧
  (rotationBits .none).toInt = 0 ∧ (rotationBits .clockwise).toInt = 1 ∧ (rotationBits .counterClockwise).toInt = -1

/-- Decoding the byte of a well-formed instruction gives it back, with every operand at every value. -/
def Obligations.DecodeOfEncode : Prop :=
  ∀ i : Instr, i.wellFormed = true → decode (encode i) = .ok i

/-- A byte the decoder accepts stands for one well-formed instruction and is that instruction's own byte. -/
def Obligations.AcceptedByteIsItsEncoding : Prop :=
  ∀ (b : Byte) (i : Instr), decode b = .ok i → i.wellFormed = true ∧ encode i = b

/-- R106 at the step: where a command can start, a reserved byte is refused by name. The queue of commands is the model's
own (entry 2). -/
def Obligations.ReservedBytesRefused : Prop :=
  ∀ (s : State) (b : Byte) (rest : List Byte), Startable s → s.cmds = b :: rest →
    (opField b = 0xB#4 ∨ opField b = 0xC#4 ∨ opField b = 0xD#4 ∨ b.getLsbD 3 = true ∨
      ((opField b = 0x0#4 ∨ opField b = 0x2#4 ∨ opField b = 0x3#4 ∨ opField b = 0x4#4 ∨ opField b = 0x9#4 ∨
        opField b = 0xA#4 ∨ opField b = 0xE#4 ∨ opField b = 0xF#4) ∧ (b.getLsbD 2 = true ∨ nField b ≠ 0#2)) ∨
      ((opField b = 0x5#4 ∨ opField b = 0x7#4 ∨ opField b = 0x8#4) ∧ b.getLsbD 2 = true) ∨
      (opField b = 0x6#4 ∧ nField b ≠ 0#2)) →
    step s = .refused .reservedCommand

/-- R107: channel 3 and rotation code 0b10 are refused by name, by the decoder and by the operation itself in every
state. -/
def Obligations.ReservedOperandsRefused : Prop :=
  decode 0x13#8 = .error .badChannel ∧ decode 0x17#8 = .error .badChannel ∧ decode 0x53#8 = .error .badChannel ∧
  decode 0x82#8 = .error .badRotation ∧
  refusalOf .badChannel = .badChannel ∧ refusalOf .badRotation = .badRotation ∧
  ∀ s : State,
    (∀ v, exec (.orbSet 3#2 v) s = .refused .badChannel) ∧ exec (.toggle 3#2) s = .refused .badChannel ∧
    exec (.evRot 0b10#2) s = .refused .badRotation

/-! Starting an operation -/

/-- A step runs the decoded instruction: where a command can start and the next byte decodes to `i`, the step is `exec i`
on the state with the byte taken off the queue (entry 2). -/
def Obligations.StepRunsCommand : Prop :=
  ∀ (s : State) (b : Byte) (rest : List Byte) (i : Instr), Startable s → s.cmds = b :: rest → decode b = .ok i →
    step s = exec i { s with cmds := rest }

/-- The load of a word makes the very next step run its instruction, in the context that instruction starts in (entry
10). -/
def Obligations.LoadedWordRuns : Prop :=
  ∀ (s : State) (w : Nat) (i : Instr), decodeTableWord 8 w = some i →
    step (s.withFetchWord 8 w) =
      exec i { s with ctx := if i = .init then .boot else .idle, qst := .idle, scanActive := false }

/-- With no command lined up, power-up runs INIT and an idle turn starts what the environment chooses: nothing (NOP),
IRQ.BTN or IRQ.ENC (R238, R248; the model's choices of entries 2 and 9). -/
def Obligations.EmptyQueueStep : Prop :=
  ∀ s : State, s.cmds = [] →
    (s.ctx = .boot → step s = exec .init s) ∧
    (Ready s → step s =
      exec (match Config.envEvent s.idleTurns with
        | none => .nop
        | some .btn => .irqBtn
        | some .enc => .irqEnc) { s with idleTurns := s.idleTurns + 1 })

/-- R236: every operation but INIT needs CTX = IDLE and INIT needs CTX = BOOT; the refusals are not_booted and
not_idle. -/
def Obligations.ContextGuards : Prop :=
  (∀ (i : Instr) (s : State), i.wellFormed = true → i ≠ .init →
    (s.ctx = .boot → exec i s = .refused .notBooted) ∧
    (s.ctx = .hBtn ∨ s.ctx = .hEnc → exec i s = .refused .notIdle)) ∧
  (∀ s : State, s.ctx ≠ .boot → exec .init s = .refused .notIdle)

/-- While SCAN_ACTIVE = 1 no ORB.SET, no TOGGLE and no second SCAN may start (R146, R78). That EV.BTN 3 and IRQ.BTN, which
contain one (R113), are refused as a whole is the model's (entry 19). -/
def Obligations.ScanGate : Prop :=
  ∀ (s : State) (c : Channel) (v : Bool), s.ctx = .idle → s.scanActive = true →
    exec (.orbSet (BitVec.ofNat 2 c) v) s = .refused .scanInProgress ∧
    exec (.toggle (BitVec.ofNat 2 c)) s = .refused .scanInProgress ∧
    exec .scan s = .refused .scanInProgress ∧
    exec (.evBtn 3) s = .refused .scanInProgress ∧
    exec .irqBtn s = .refused .scanInProgress

/-- R266, R243: with an operation in progress the step runs on and starts nothing: it takes no command and makes no idle
turn (entries 1, 2). -/
def Obligations.NothingStartsMidOperation : Prop :=
  ∀ s : State, ¬ Startable s → ∃ t, step s = .next t ∧ t.cmds = s.cmds ∧ t.idleTurns = s.idleTurns

/-- The contexts a step can lead to (R30, R236, R240 to R243): BOOT is left only to IDLE, a handler is entered only from
IDLE and left only to IDLE. -/
def Obligations.ContextTransitions : Prop :=
  ∀ s t : State, step s = .next t →
    (s.ctx = .boot → t.ctx = .idle) ∧ (s.ctx = .idle → t.ctx ≠ .boot) ∧
    (s.ctx = .hBtn → t.ctx = .hBtn ∨ t.ctx = .idle) ∧ (s.ctx = .hEnc → t.ctx = .hEnc ∨ t.ctx = .idle)

/-! Output Register Model -/

/-- ORB.RD returns ORB and changes nothing else (R121); `result` is the model's own (entry 13). -/
def Obligations.OrbReadReturnsOrb : Prop :=
  ∀ s : State, s.ctx = .idle → exec .orbRd s = .next { s with result := .byte s.orb }

/-- ORB.SET c, v (R122, R123): bit 2 - c of ORB is assigned v, every other bit keeps its value, the new ORB is transmitted
once, also where v is the bit's present value, and nothing else changes; where the outputs showed ORB, only line 2 - c can
change level. Channel 3 is refused, and a start during a scan is refused. -/
def Obligations.OrbSetAssignsOneBit : Prop :=
  (∀ (c : Channel) (v : Bool),
    decode (0x10#8 ||| (BitVec.ofBool v).setWidth 8 <<< 2 ||| BitVec.ofNat 8 c) =
      .ok (.orbSet (BitVec.ofNat 2 c) v)) ∧
  (∀ (s : State) (c : Channel) (v : Bool), s.ctx = .idle → s.scanActive = false →
    ∃ o : Byte,
      exec (.orbSet (BitVec.ofNat 2 c) v) s =
        .next { s with orb := o, outLatch := o, trace := s.trace ++ [.tx o] } ∧
      (∀ k < 8, o.getLsbD k = if k = 2 - c.val then v else s.orb.getLsbD k) ∧
      (s.outLatch = s.orb → ∀ k < 8, k ≠ 2 - c.val → o.getLsbD k = s.outLatch.getLsbD k)) ∧
  (∀ (s : State) (v : Bool), exec (.orbSet 3#2 v) s = .refused .badChannel) ∧
  (∀ (s : State) (c : Channel) (v : Bool), s.ctx = .idle → s.scanActive = true →
    exec (.orbSet (BitVec.ofNat 2 c) v) s = .refused .scanInProgress)

/-! Button Scanner -/

/-- SCAN starts with line S0 (R138) and changes nothing else; `scanSent` is the model's own (entry 1). -/
def Obligations.ScanStarts : Prop :=
  ∀ s : State, s.ctx = .idle → s.scanActive = false →
    exec .scan s = .next { s with scanActive := true, scanI := 0, hit := none, scanSent := false }

/-- A whole SCAN started by a test bench (R138 to R143): from an operation boundary it starts and ten steps later has made
exactly the five transmits CAND(0) to CAND(3) and ORB, taken four samples, ended with the highest asserted index in
HIT, handed it back, and changed nothing else. The samples, the step count and `result` are the model's own (entries 1,
3, 13). -/
def Obligations.ScanCompletes : Prop :=
  ∀ s : State, Ready s →
    ∃ t, exec .scan s = .next t ∧
      stepsTo 10 t
        { s with
          outLatch := s.orb
          scanI := 0
          scanSent := false
          hit := highest (fun i => btnAt s i.val)
          trace := s.trace ++
            [.tx (0x10#8 ||| (s.orb &&& 0x0F#8)), .tx (0x20#8 ||| (s.orb &&& 0x0F#8)),
             .tx (0x40#8 ||| (s.orb &&& 0x0F#8)), .tx (0x80#8 ||| (s.orb &&& 0x0F#8)), .tx s.orb]
          result := .button (highest (fun i => btnAt s i.val))
          btnIn := s.btnIn.drop 4
          btnTaken := s.btnTaken + 4 }

/-- During a whole SCAN (R41, R144) the outputs 3:0 hold the bits of ORB and none of EN, ORB, DUTY, SEL, PWM_CMP, QST, CTX
changes, at every step of it. -/
def Obligations.ScanHoldsEnableLines : Prop :=
  ∀ (s t u : State) (k : Nat), Ready s → s.outLatch = s.orb → exec .scan s = .next t → k ≤ 10 → stepsTo k t u →
    keptBits u.outLatch = keptBits s.orb ∧ u.orb = s.orb ∧ u.en = s.en ∧ u.duty = s.duty ∧ u.sel = s.sel ∧
    u.pwmCmp = s.pwmCmp ∧ u.qst = s.qst ∧ u.ctx = s.ctx

/-- Under E-PANEL (R66) for the held buttons `pressed` at every step of a SCAN, its result is the highest-numbered button
held, None where none is held (R141, R142). -/
def Obligations.ScanReportsHeldButton : Prop :=
  ∀ (pressed : ButtonId → Bool) (s t u : State), Ready s → exec .scan s = .next t →
    (∀ k v, k < 10 → stepsTo k t v → EPanel pressed v) → stepsTo 10 t u → u.hit = highest pressed

/-! Quadrature Decoder -/

/-- QDEC's entry sample alone selects the path (R157, R158): (1,0) the clockwise wait, (0,1) the counter-clockwise wait,
(0,0) and (1,1) the result None at once; nothing else changes. Samples and `result` are the model's own (entries 3,
13). -/
def Obligations.QdecEntry : Prop :=
  ∀ s : State, s.ctx = .idle → s.qst = .idle →
    (encAt s 0 = (true, false) →
      exec .qdec s = .next { s with encIn := s.encIn.tail, encTaken := s.encTaken + 1, qst := .cwWaitCombo }) ∧
    (encAt s 0 = (false, true) →
      exec .qdec s = .next { s with encIn := s.encIn.tail, encTaken := s.encTaken + 1, qst := .ccwWaitCombo }) ∧
    (encAt s 0 = (false, false) ∨ encAt s 0 = (true, true) →
      exec .qdec s =
        .next { s with encIn := s.encIn.tail, encTaken := s.encTaken + 1, result := .rotation .none })

/-- The exit conditions of R160, sample by sample, in either caller: which samples a wait continues on, changing nothing,
and which end it. -/
def Obligations.WaitExitConditions : Prop :=
  ∀ s : State, s.ctx = .idle ∨ s.ctx = .hEnc →
    let taken : State := { s with encIn := s.encIn.tail, encTaken := s.encTaken + 1 }
    (s.qst = .cwWaitCombo →
      (encAt s 0 = (true, false) → step s = .next taken) ∧
      (encAt s 0 ≠ (true, false) → step s = .next { taken with qst := .waitLineBRelease })) ∧
    (s.qst = .waitLineBRelease →
      ((encAt s 0).2 = true → step s = .next taken) ∧
      ((encAt s 0).2 = false → ∃ t, step s = .next t ∧ t.qst = .idle ∧ t.ctx = .idle)) ∧
    (s.qst = .ccwWaitCombo →
      (encAt s 0 = (false, true) → step s = .next taken) ∧
      (encAt s 0 ≠ (false, true) → step s = .next { taken with qst := .waitLineARelease })) ∧
    (s.qst = .waitLineARelease →
      ((encAt s 0).1 = true → step s = .next taken) ∧
      ((encAt s 0).1 = false → ∃ t, step s = .next t ∧ t.qst = .idle ∧ t.ctx = .idle))

/-- A whole QDEC started by a test bench that returns (R157, R161, R168): entry (1,0), k samples that keep the first wait,
one that ends it, m samples that keep the second wait, one that ends it: the result is Clockwise after k + m + 3 samples,
and QST is back in Idle with nothing else changed; and the same with A and B swapped. -/
def Obligations.QdecReturnsDirection : Prop :=
  ∀ (s : State) (k m : Nat), s.ctx = .idle → s.qst = .idle →
    let done : Rotation → State := fun d =>
      { s with
        encIn := s.encIn.drop (k + m + 3)
        encTaken := s.encTaken + (k + m + 3)
        result := .rotation d }
    (encAt s 0 = (true, false) → (∀ j, 1 ≤ j → j ≤ k → encAt s j = (true, false)) →
      encAt s (k + 1) ≠ (true, false) → (∀ j, k + 2 ≤ j → j ≤ k + m + 1 → (encAt s j).2 = true) →
      (encAt s (k + m + 2)).2 = false →
      ∃ t, exec .qdec s = .next t ∧ stepsTo (k + m + 2) t (done .clockwise)) ∧
    (encAt s 0 = (false, true) → (∀ j, 1 ≤ j → j ≤ k → encAt s j = (false, true)) →
      encAt s (k + 1) ≠ (false, true) → (∀ j, k + 2 ≤ j → j ≤ k + m + 1 → (encAt s j).1 = true) →
      (encAt s (k + m + 2)).1 = false →
      ∃ t, exec .qdec s = .next t ∧ stepsTo (k + m + 2) t (done .counterClockwise))

/-- The hang (R166): while no sample ends the wait a decoder state is in, the machine takes samples for ever and changes
no register; after any number of steps it is still in that wait, in whichever context it runs. The samples are the model's
own (entry 3). -/
def Obligations.StuckWaitNeverEnds : Prop :=
  ∀ s : State, s.ctx = .idle ∨ s.ctx = .hEnc → s.qst ≠ .idle → (∀ k, waitEnds s.qst (encAt s k) = false) →
    ∀ n, stepsTo n s { s with encIn := s.encIn.drop n, encTaken := s.encTaken + n }

/-- Under E-PULSE (R67) a decode in the encoder handler returns: some number of steps later CTX and QST are Idle, and on
the way no command was taken. The queue of commands and the samples are the model's own (entries 2, 3). -/
def Obligations.DecoderReturnsUnderPulse : Prop :=
  ∀ s : State, s.ctx = .hEnc → s.qst ≠ .idle → EPulse s →
    ∃ n t, stepsTo n s t ∧ t.ctx = .idle ∧ t.qst = .idle ∧ t.cmds = s.cmds

/-! Regulator Bank and update synchronizer -/

/-- SELNEXT (R182): byte 0x40; SEL becomes (SEL + 1) mod 3, nothing else changes and no event is emitted; three of them
give the selection back. -/
def Obligations.SelnextAdvances : Prop :=
  decode 0x40#8 = .ok .selnext ∧
  (∀ s : State, s.ctx = .idle →
    ∃ n : Channel, exec .selnext s = .next { s with sel := n } ∧ n.val = (s.sel.val + 1) % 3) ∧
  (∀ s t u v : State, exec .selnext s = .next t → exec .selnext t = .next u → exec .selnext u = .next v → v = s)

/-- TOGGLE c (R186): EN[c] is inverted and no other flag changes, ORB[2 - c] takes its new value and no other bit of ORB
changes, the new ORB is transmitted once, and for the adjustable channel PWM_CMP is then written with DUTY or 0; nothing
else changes, whichever channel is selected. Channel 3 is refused, and a start during a scan is refused. -/
def Obligations.TogglePowersChannel : Prop :=
  (∀ c : Channel, decode (0x50#8 ||| BitVec.ofNat 8 c) = .ok (.toggle (BitVec.ofNat 2 c))) ∧
  (∀ (s : State) (c : Channel), s.ctx = .idle → s.scanActive = false →
    ∃ (e : Vector Bool 3) (o : Byte) (p : Duty),
      exec (.toggle (BitVec.ofNat 2 c)) s =
        .next { s with
          en := e
          orb := o
          outLatch := o
          pwmCmp := if c = 0 then p else s.pwmCmp
          trace := s.trace ++ (if c = 0 then [.tx o, .pwmw p] else [.tx o]) } ∧
      (∀ d : Channel, e[d] = if d = c then !s.en[d] else s.en[d]) ∧
      (∀ k < 8, o.getLsbD k = if k = 2 - c.val then !s.en[c] else s.orb.getLsbD k) ∧
      (p = if e[c] then s.duty else 0)) ∧
  (∀ s : State, exec (.toggle 3#2) s = .refused .badChannel) ∧
  (∀ (s : State) (c : Channel), s.ctx = .idle → s.scanActive = true →
    exec (.toggle (BitVec.ofNat 2 c)) s = .refused .scanInProgress)

/-- The parity and duty laws of TOGGLE (R187): after n TOGGLE c in a row EN[c] has been inverted n times, the other flags,
DUTY and SEL are as before, for a fixed channel PWM_CMP too, and for the adjustable one, once toggled, PWM_CMP is DUTY or 0
by EN[0]. -/
def Obligations.ToggleParity : Prop :=
  ∀ (c : Channel) (run : Nat → State) (n : Nat),
    (∀ k < n, exec (.toggle (BitVec.ofNat 2 c)) (run k) = .next (run (k + 1))) →
    ((run n).en[c] = ((run 0).en[c] ^^ decide (n % 2 = 1))) ∧
    (∀ d : Channel, d ≠ c → (run n).en[d] = (run 0).en[d]) ∧
    (run n).duty = (run 0).duty ∧ (run n).sel = (run 0).sel ∧
    (c ≠ 0 → (run n).pwmCmp = (run 0).pwmCmp) ∧
    (c = 0 → 0 < n → (run n).pwmCmp = if (run n).en[c] then (run n).duty else 0)

/-- ADJ with the adjustable channel selected (R190 to R193): DUTY' = min(100, DUTY + 1) or max(0, DUTY - 1); enabled, PWM_CMP
is written with DUTY' also where it was clamped; disabled, PWM_CMP is not touched; nothing else changes. -/
def Obligations.AdjustSaturates : Prop :=
  ∀ (s : State) (inc : Bool), s.ctx = .idle → s.sel = 0 →
    ∃ d : Duty,
      (d.val : Int) = (if inc then min 100 ((s.duty.val : Int) + 1) else max 0 ((s.duty.val : Int) - 1)) ∧
      (s.en[(0 : Channel)] = true →
        exec (.adj inc) s = .next { s with duty := d, pwmCmp := d, trace := s.trace ++ [.pwmw d] }) ∧
      (s.en[(0 : Channel)] = false → exec (.adj inc) s = .next { s with duty := d })

/-- ADJ with a fixed channel selected changes nothing and emits nothing (R194). -/
def Obligations.AdjustFixedIgnored : Prop :=
  ∀ (s : State) (inc : Bool), s.ctx = .idle → s.sel ≠ 0 → exec (.adj inc) s = .next s

/-- Over the whole machine DUTY is changed by startup and by ADJ only (R22, R190): after startup a step that changes DUTY
changes it by one, with channel 0 selected. -/
def Obligations.DutyMovesByOne : Prop :=
  ∀ s t : State, step s = .next t → s.ctx ≠ .boot → t.duty ≠ s.duty →
    s.sel = 0 ∧ t.sel = 0 ∧ (t.duty.val = s.duty.val + 1 ∨ s.duty.val = t.duty.val + 1)

/-- Over the whole machine PWM_CMP and OUT_LATCH are written by PwmWrite and Tx only (R27, R28, R196): a step that changes
one of them appends an event that carries its new value. -/
def Obligations.OutputsChangeByEvents : Prop :=
  ∀ s t : State, step s = .next t →
    (t.pwmCmp ≠ s.pwmCmp → .pwmw t.pwmCmp ∈ t.trace.drop s.trace.length) ∧
    (t.outLatch ≠ s.outLatch → .tx t.outLatch ∈ t.trace.drop s.trace.length)

/-- The event trace is only ever appended to (R18, R75). -/
def Obligations.TraceOnlyGrows : Prop :=
  ∀ s t : State, step s = .next t → ∃ es : List Event, t.trace = s.trace ++ es

/-! Control Dispatcher -/

/-- Button 0 emits ACK and changes no register (R207); button 2 does nothing at all (R209). -/
def Obligations.PlaceholderButtons : Prop :=
  ∀ s : State, s.ctx = .idle →
    exec (.evBtn 0) s = .next { s with trace := s.trace ++ [.ack] } ∧ exec (.evBtn 2) s = .next s

/-- Button 1 is SELNEXT then RENDER, and button 3 is TOGGLE SEL then RENDER, with the value SEL had (R208, R210, R113). The
snapshot in RENDER is the model's own (entry 14). -/
def Obligations.SelectAndPowerButtons : Prop :=
  ∀ s : State, s.ctx = .idle →
    (∃ t, exec .selnext s = .next t ∧
      exec (.evBtn 1) s = .next { t with trace := t.trace ++ [.render t.sel t.en[t.sel] t.duty] }) ∧
    (s.scanActive = false →
      ∃ t, exec (.toggle (BitVec.ofNat 2 s.sel)) s = .next t ∧
        exec (.evBtn 3) s = .next { t with trace := t.trace ++ [.render t.sel t.en[t.sel] t.duty] })

/-- A rotation with a fixed channel selected, and the event None, change nothing and emit nothing (R213, R214). -/
def Obligations.IgnoredRotations : Prop :=
  ∀ s : State, s.ctx = .idle →
    exec (.evRot 0b00#2) s = .next s ∧
    (s.sel ≠ 0 → exec (.evRot 0b01#2) s = .next s ∧ exec (.evRot 0b11#2) s = .next s)

/-- With the adjustable channel selected Clockwise is ADJ + and CounterClockwise is ADJ -, then RENDER, also where DUTY was
clamped (R212, R215, R113). The snapshot in RENDER is the model's own (entry 14). -/
def Obligations.RotationAdjusts : Prop :=
  ∀ s : State, s.ctx = .idle → s.sel = 0 →
    (∃ t, exec (.adj true) s = .next t ∧
      exec (.evRot 0b01#2) s = .next { t with trace := t.trace ++ [.render t.sel t.en[t.sel] t.duty] }) ∧
    (∃ t, exec (.adj false) s = .next t ∧
      exec (.evRot 0b11#2) s = .next { t with trace := t.trace ++ [.render t.sel t.en[t.sel] t.duty] })

/-! Handlers, idle, startup -/

/-- A whole IRQ.BTN (R240): from an operation boundary it enters H_BTN, scans, restores, and eleven steps later is back in
IDLE having done what EV.BTN does on the hit to the state the scan left, and nothing on None. Samples and the step count
are the model's own (entries 1, 3, 15). -/
def Obligations.ButtonHandlerCompletes : Prop :=
  ∀ s : State, Ready s →
    ∃ t u, exec .irqBtn s = .next t ∧ t.ctx = .hBtn ∧ stepsTo 11 t u ∧
      let scanned : State :=
        { s with
          outLatch := s.orb
          scanI := 0
          scanSent := false
          hit := highest (fun i => btnAt s i.val)
          trace := s.trace ++
            [.tx (0x10#8 ||| (s.orb &&& 0x0F#8)), .tx (0x20#8 ||| (s.orb &&& 0x0F#8)),
             .tx (0x40#8 ||| (s.orb &&& 0x0F#8)), .tx (0x80#8 ||| (s.orb &&& 0x0F#8)), .tx s.orb]
          btnIn := s.btnIn.drop 4
          btnTaken := s.btnTaken + 4 }
      (∀ b, scanned.hit = some b → exec (.evBtn b) scanned = .next u) ∧
      (scanned.hit = none → u = scanned)

/-- IRQ.ENC's start (R241, R242): the entry sample (1,0) or (0,1) leaves it in H_ENC in the first wait of that direction
with no other register changed; (0,0) and (1,1) give None, which changes nothing, and the handler has returned. The
samples are the model's own (entries 3, 15). -/
def Obligations.EncoderHandlerEntry : Prop :=
  ∀ s : State, s.ctx = .idle → s.qst = .idle →
    let taken : State := { s with encIn := s.encIn.tail, encTaken := s.encTaken + 1 }
    (encAt s 0 = (true, false) → exec .irqEnc s = .next { taken with ctx := .hEnc, qst := .cwWaitCombo }) ∧
    (encAt s 0 = (false, true) → exec .irqEnc s = .next { taken with ctx := .hEnc, qst := .ccwWaitCombo }) ∧
    (encAt s 0 = (false, false) ∨ encAt s 0 = (true, true) → exec .irqEnc s = .next taken)

/-- A whole IRQ.ENC whose waits end (R241): after the samples of a clockwise or counter-clockwise pulse the handler has
done what EV.ROT of that direction does at IDLE, and is back in IDLE with no value stored. The samples are the model's own
(entries 3, 15). -/
def Obligations.EncoderHandlerDispatches : Prop :=
  ∀ (s : State) (k m : Nat), s.ctx = .idle → s.qst = .idle →
    let taken : State := { s with encIn := s.encIn.drop (k + m + 3), encTaken := s.encTaken + (k + m + 3) }
    (encAt s 0 = (true, false) → (∀ j, 1 ≤ j → j ≤ k → encAt s j = (true, false)) →
      encAt s (k + 1) ≠ (true, false) → (∀ j, k + 2 ≤ j → j ≤ k + m + 1 → (encAt s j).2 = true) →
      (encAt s (k + m + 2)).2 = false →
      ∃ t u, exec .irqEnc s = .next t ∧ stepsTo (k + m + 2) t u ∧ exec (.evRot 0b01#2) taken = .next u) ∧
    (encAt s 0 = (false, true) → (∀ j, 1 ≤ j → j ≤ k → encAt s j = (false, true)) →
      encAt s (k + 1) ≠ (false, true) → (∀ j, k + 2 ≤ j → j ≤ k + m + 1 → (encAt s j).1 = true) →
      (encAt s (k + m + 2)).1 = false →
      ∃ t u, exec .irqEnc s = .next t ∧ stepsTo (k + m + 2) t u ∧ exec (.evRot 0b11#2) taken = .next u)

/-- NOP (R246): byte 0xE0; with CTX = IDLE it changes no register and emits no event. -/
def Obligations.NopDoesNothing : Prop :=
  decode 0xE0#8 = .ok .nop ∧ ∀ s : State, s.ctx = .idle → exec .nop s = .next s

/-- INIT (R260): from power-up, whatever the registers hold, every register takes its startup value, with the events
TX(IND << 3), PWMW(0), RENDER in this order, and the environment's inputs are untouched. `scanSent` and the snapshot in
RENDER are the model's own (entries 1, 14). -/
def Obligations.InitEstablishesStart : Prop :=
  ∀ s : State, s.ctx = .boot →
    ∃ o : Byte,
      exec .init s = .next { s with
        en := #v[false, false, false], duty := 0, sel := 0, orb := o, outLatch := o, pwmCmp := 0, ctx := .idle,
        qst := .idle, scanActive := false, scanI := 0, hit := none, scanSent := false,
        trace := s.trace ++ [.tx o, .pwmw 0, .render 0 false 0] } ∧
      (∀ k < 8, o.getLsbD k = if k < 3 then false else Config.ind.getLsbD (k - 3))

/-- The values after startup of R50, R52, R53 and R58, and of R51, R55 to R57: INIT completes from BOOT and leaves exactly
these. -/
def Obligations.StartupValues : Prop :=
  ∀ s : State, s.ctx = .boot →
    ∃ t, exec .init s = .next t ∧ (∀ c : Channel, t.en[c] = false) ∧ t.duty = 0 ∧ t.sel = 0 ∧
      (∀ k < 3, t.orb.getLsbD k = false) ∧ (∀ k < 5, t.orb.getLsbD (k + 3) = Config.ind.getLsbD k) ∧
      t.outLatch = t.orb ∧ t.pwmCmp = 0 ∧ t.ctx = .idle ∧ t.qst = .idle ∧ t.scanActive = false ∧ t.scanI = 0 ∧
      t.hit = none

/-- Power-up: CTX = BOOT (R56), the registers hold the reset values of spec/10_state.md (the model's choice where CTX is
still BOOT, entry 6), and nothing is lined up (entry 8). -/
def Obligations.ResetState : Prop :=
  State.reset.ctx = .boot ∧ State.reset.duty = 0 ∧ State.reset.sel = 0 ∧ State.reset.pwmCmp = 0 ∧
  (∀ c : Channel, State.reset.en[c] = false) ∧ State.reset.orb = startupByte Config.ind ∧
  State.reset.qst = .idle ∧ State.reset.scanActive = false ∧ State.reset.scanI = 0 ∧ State.reset.hit = none ∧
  State.reset.trace = [] ∧ State.reset.cmds = []

/-! Invariants -/

/-- R40 and R41 over every step (I2 to I6): from every state with the invariant, whatever is lined up, a step gives a
state with it: ORB[7:3] = IND, OUT_LATCH is the byte that ORB and the scan's position determine, PWM_CMP follows DUTY and
EN[0], and the sequencer registers agree. -/
def Obligations.InvariantKept : Prop :=
  ∀ s t : State, Inv s → step s = .next t → Inv t

/-- The invariant of R40 and R41 holds at power-up. -/
def Obligations.InvariantAtReset : Prop := Inv State.reset

/-- R40, I1: where the enable state is changed through TOGGLE only, every step keeps the enable bits of ORB equal to the
channels' flags. -/
def Obligations.MirrorKept : Prop :=
  ∀ s t : State, MirrorInv s → step s = .next t → MirrorInv t

/-- The mirror invariant holds at power-up. -/
def Obligations.MirrorAtReset : Prop := MirrorInv State.reset

/-- At every operation boundary after startup (R40): ORB[7:3] = IND, OUT_LATCH = ORB, PWM_CMP = DUTY or 0 by EN[0], QST = Idle
and SCAN_ACTIVE = 0, for a machine that has kept the invariant. -/
def Obligations.BoundaryInvariants : Prop :=
  ∀ (s : State) (n : Nat) (t : State), Inv s → stepsTo n s t → Ready t →
    indicatorBits t.orb = Config.ind ∧ t.outLatch = t.orb ∧ Synced t ∧ t.qst = .idle ∧ t.scanActive = false
end

