-- ==== Sys2Proof/Laws/State.lean ====
section
/-!
SUPPORT. One lemma per field per update: what each straight-line operation of the machine leaves in each field. All are
true by rfl and tagged simp, so that no proof unfolds a record update.
-/

namespace Sys2Proof.Machine

variable (s : State)

/-! emit -/

@[simp] theorem emit_en (e : Event) : (emit e s).en = s.en := rfl
@[simp] theorem emit_duty (e : Event) : (emit e s).duty = s.duty := rfl
@[simp] theorem emit_sel (e : Event) : (emit e s).sel = s.sel := rfl
@[simp] theorem emit_orb (e : Event) : (emit e s).orb = s.orb := rfl
@[simp] theorem emit_outLatch (e : Event) : (emit e s).outLatch = s.outLatch := rfl
@[simp] theorem emit_pwmCmp (e : Event) : (emit e s).pwmCmp = s.pwmCmp := rfl
@[simp] theorem emit_ctx (e : Event) : (emit e s).ctx = s.ctx := rfl
@[simp] theorem emit_qst (e : Event) : (emit e s).qst = s.qst := rfl
@[simp] theorem emit_scanActive (e : Event) : (emit e s).scanActive = s.scanActive := rfl
@[simp] theorem emit_scanI (e : Event) : (emit e s).scanI = s.scanI := rfl
@[simp] theorem emit_hit (e : Event) : (emit e s).hit = s.hit := rfl
@[simp] theorem emit_trace (e : Event) : (emit e s).trace = s.trace ++ [e] := rfl
@[simp] theorem emit_scanSent (e : Event) : (emit e s).scanSent = s.scanSent := rfl
@[simp] theorem emit_result (e : Event) : (emit e s).result = s.result := rfl
@[simp] theorem emit_cmds (e : Event) : (emit e s).cmds = s.cmds := rfl
@[simp] theorem emit_btnIn (e : Event) : (emit e s).btnIn = s.btnIn := rfl
@[simp] theorem emit_encIn (e : Event) : (emit e s).encIn = s.encIn := rfl
@[simp] theorem emit_encHeld (e : Event) : (emit e s).encHeld = s.encHeld := rfl
@[simp] theorem emit_btnTaken (e : Event) : (emit e s).btnTaken = s.btnTaken := rfl
@[simp] theorem emit_encTaken (e : Event) : (emit e s).encTaken = s.encTaken := rfl
@[simp] theorem emit_idleTurns (e : Event) : (emit e s).idleTurns = s.idleTurns := rfl

/-! tx -/

@[simp] theorem tx_en (v : Byte) : (tx v s).en = s.en := rfl
@[simp] theorem tx_duty (v : Byte) : (tx v s).duty = s.duty := rfl
@[simp] theorem tx_sel (v : Byte) : (tx v s).sel = s.sel := rfl
@[simp] theorem tx_orb (v : Byte) : (tx v s).orb = s.orb := rfl
@[simp] theorem tx_outLatch (v : Byte) : (tx v s).outLatch = v := rfl
@[simp] theorem tx_pwmCmp (v : Byte) : (tx v s).pwmCmp = s.pwmCmp := rfl
@[simp] theorem tx_ctx (v : Byte) : (tx v s).ctx = s.ctx := rfl
@[simp] theorem tx_qst (v : Byte) : (tx v s).qst = s.qst := rfl
@[simp] theorem tx_scanActive (v : Byte) : (tx v s).scanActive = s.scanActive := rfl
@[simp] theorem tx_scanI (v : Byte) : (tx v s).scanI = s.scanI := rfl
@[simp] theorem tx_hit (v : Byte) : (tx v s).hit = s.hit := rfl
@[simp] theorem tx_trace (v : Byte) : (tx v s).trace = s.trace ++ [.tx v] := rfl
@[simp] theorem tx_scanSent (v : Byte) : (tx v s).scanSent = s.scanSent := rfl
@[simp] theorem tx_result (v : Byte) : (tx v s).result = s.result := rfl
@[simp] theorem tx_cmds (v : Byte) : (tx v s).cmds = s.cmds := rfl
@[simp] theorem tx_btnIn (v : Byte) : (tx v s).btnIn = s.btnIn := rfl
@[simp] theorem tx_encIn (v : Byte) : (tx v s).encIn = s.encIn := rfl
@[simp] theorem tx_encHeld (v : Byte) : (tx v s).encHeld = s.encHeld := rfl
@[simp] theorem tx_btnTaken (v : Byte) : (tx v s).btnTaken = s.btnTaken := rfl
@[simp] theorem tx_encTaken (v : Byte) : (tx v s).encTaken = s.encTaken := rfl
@[simp] theorem tx_idleTurns (v : Byte) : (tx v s).idleTurns = s.idleTurns := rfl

/-! pwmWrite -/

@[simp] theorem pwmWrite_en (v : Duty) : (pwmWrite v s).en = s.en := rfl
@[simp] theorem pwmWrite_duty (v : Duty) : (pwmWrite v s).duty = s.duty := rfl
@[simp] theorem pwmWrite_sel (v : Duty) : (pwmWrite v s).sel = s.sel := rfl
@[simp] theorem pwmWrite_orb (v : Duty) : (pwmWrite v s).orb = s.orb := rfl
@[simp] theorem pwmWrite_outLatch (v : Duty) : (pwmWrite v s).outLatch = s.outLatch := rfl
@[simp] theorem pwmWrite_pwmCmp (v : Duty) : (pwmWrite v s).pwmCmp = v := rfl
@[simp] theorem pwmWrite_ctx (v : Duty) : (pwmWrite v s).ctx = s.ctx := rfl
@[simp] theorem pwmWrite_qst (v : Duty) : (pwmWrite v s).qst = s.qst := rfl
@[simp] theorem pwmWrite_scanActive (v : Duty) : (pwmWrite v s).scanActive = s.scanActive := rfl
@[simp] theorem pwmWrite_scanI (v : Duty) : (pwmWrite v s).scanI = s.scanI := rfl
@[simp] theorem pwmWrite_hit (v : Duty) : (pwmWrite v s).hit = s.hit := rfl
@[simp] theorem pwmWrite_trace (v : Duty) : (pwmWrite v s).trace = s.trace ++ [.pwmw v] := rfl
@[simp] theorem pwmWrite_scanSent (v : Duty) : (pwmWrite v s).scanSent = s.scanSent := rfl
@[simp] theorem pwmWrite_result (v : Duty) : (pwmWrite v s).result = s.result := rfl
@[simp] theorem pwmWrite_cmds (v : Duty) : (pwmWrite v s).cmds = s.cmds := rfl
@[simp] theorem pwmWrite_btnIn (v : Duty) : (pwmWrite v s).btnIn = s.btnIn := rfl
@[simp] theorem pwmWrite_encIn (v : Duty) : (pwmWrite v s).encIn = s.encIn := rfl
@[simp] theorem pwmWrite_encHeld (v : Duty) : (pwmWrite v s).encHeld = s.encHeld := rfl
@[simp] theorem pwmWrite_btnTaken (v : Duty) : (pwmWrite v s).btnTaken = s.btnTaken := rfl
@[simp] theorem pwmWrite_encTaken (v : Duty) : (pwmWrite v s).encTaken = s.encTaken := rfl
@[simp] theorem pwmWrite_idleTurns (v : Duty) : (pwmWrite v s).idleTurns = s.idleTurns := rfl

/-! render -/

@[simp] theorem render_en : (render s).en = s.en := rfl
@[simp] theorem render_duty : (render s).duty = s.duty := rfl
@[simp] theorem render_sel : (render s).sel = s.sel := rfl
@[simp] theorem render_orb : (render s).orb = s.orb := rfl
@[simp] theorem render_outLatch : (render s).outLatch = s.outLatch := rfl
@[simp] theorem render_pwmCmp : (render s).pwmCmp = s.pwmCmp := rfl
@[simp] theorem render_ctx : (render s).ctx = s.ctx := rfl
@[simp] theorem render_qst : (render s).qst = s.qst := rfl
@[simp] theorem render_scanActive : (render s).scanActive = s.scanActive := rfl
@[simp] theorem render_scanI : (render s).scanI = s.scanI := rfl
@[simp] theorem render_hit : (render s).hit = s.hit := rfl
@[simp] theorem render_trace : (render s).trace = s.trace ++ [.render s.sel s.en[s.sel] s.duty] := rfl
@[simp] theorem render_scanSent : (render s).scanSent = s.scanSent := rfl
@[simp] theorem render_result : (render s).result = s.result := rfl
@[simp] theorem render_cmds : (render s).cmds = s.cmds := rfl
@[simp] theorem render_btnIn : (render s).btnIn = s.btnIn := rfl
@[simp] theorem render_encIn : (render s).encIn = s.encIn := rfl
@[simp] theorem render_encHeld : (render s).encHeld = s.encHeld := rfl
@[simp] theorem render_btnTaken : (render s).btnTaken = s.btnTaken := rfl
@[simp] theorem render_encTaken : (render s).encTaken = s.encTaken := rfl
@[simp] theorem render_idleTurns : (render s).idleTurns = s.idleTurns := rfl

/-! acknowledge -/

@[simp] theorem acknowledge_en : (acknowledge s).en = s.en := rfl
@[simp] theorem acknowledge_duty : (acknowledge s).duty = s.duty := rfl
@[simp] theorem acknowledge_sel : (acknowledge s).sel = s.sel := rfl
@[simp] theorem acknowledge_orb : (acknowledge s).orb = s.orb := rfl
@[simp] theorem acknowledge_outLatch : (acknowledge s).outLatch = s.outLatch := rfl
@[simp] theorem acknowledge_pwmCmp : (acknowledge s).pwmCmp = s.pwmCmp := rfl
@[simp] theorem acknowledge_ctx : (acknowledge s).ctx = s.ctx := rfl
@[simp] theorem acknowledge_qst : (acknowledge s).qst = s.qst := rfl
@[simp] theorem acknowledge_scanActive : (acknowledge s).scanActive = s.scanActive := rfl
@[simp] theorem acknowledge_scanI : (acknowledge s).scanI = s.scanI := rfl
@[simp] theorem acknowledge_hit : (acknowledge s).hit = s.hit := rfl
@[simp] theorem acknowledge_trace : (acknowledge s).trace = s.trace ++ [.ack] := rfl
@[simp] theorem acknowledge_scanSent : (acknowledge s).scanSent = s.scanSent := rfl
@[simp] theorem acknowledge_result : (acknowledge s).result = s.result := rfl
@[simp] theorem acknowledge_cmds : (acknowledge s).cmds = s.cmds := rfl
@[simp] theorem acknowledge_btnIn : (acknowledge s).btnIn = s.btnIn := rfl
@[simp] theorem acknowledge_encIn : (acknowledge s).encIn = s.encIn := rfl
@[simp] theorem acknowledge_encHeld : (acknowledge s).encHeld = s.encHeld := rfl
@[simp] theorem acknowledge_btnTaken : (acknowledge s).btnTaken = s.btnTaken := rfl
@[simp] theorem acknowledge_encTaken : (acknowledge s).encTaken = s.encTaken := rfl
@[simp] theorem acknowledge_idleTurns : (acknowledge s).idleTurns = s.idleTurns := rfl

/-! setEn -/

@[simp] theorem setEn_en (c : Channel) (v : Bool) : (setEn c v s).en = s.en.set c v := rfl
@[simp] theorem setEn_duty (c : Channel) (v : Bool) : (setEn c v s).duty = s.duty := rfl
@[simp] theorem setEn_sel (c : Channel) (v : Bool) : (setEn c v s).sel = s.sel := rfl
@[simp] theorem setEn_orb (c : Channel) (v : Bool) : (setEn c v s).orb = s.orb := rfl
@[simp] theorem setEn_outLatch (c : Channel) (v : Bool) : (setEn c v s).outLatch = s.outLatch := rfl
@[simp] theorem setEn_pwmCmp (c : Channel) (v : Bool) : (setEn c v s).pwmCmp = s.pwmCmp := rfl
@[simp] theorem setEn_ctx (c : Channel) (v : Bool) : (setEn c v s).ctx = s.ctx := rfl
@[simp] theorem setEn_qst (c : Channel) (v : Bool) : (setEn c v s).qst = s.qst := rfl
@[simp] theorem setEn_scanActive (c : Channel) (v : Bool) : (setEn c v s).scanActive = s.scanActive := rfl
@[simp] theorem setEn_scanI (c : Channel) (v : Bool) : (setEn c v s).scanI = s.scanI := rfl
@[simp] theorem setEn_hit (c : Channel) (v : Bool) : (setEn c v s).hit = s.hit := rfl
@[simp] theorem setEn_trace (c : Channel) (v : Bool) : (setEn c v s).trace = s.trace := rfl
@[simp] theorem setEn_scanSent (c : Channel) (v : Bool) : (setEn c v s).scanSent = s.scanSent := rfl
@[simp] theorem setEn_result (c : Channel) (v : Bool) : (setEn c v s).result = s.result := rfl
@[simp] theorem setEn_cmds (c : Channel) (v : Bool) : (setEn c v s).cmds = s.cmds := rfl
@[simp] theorem setEn_btnIn (c : Channel) (v : Bool) : (setEn c v s).btnIn = s.btnIn := rfl
@[simp] theorem setEn_encIn (c : Channel) (v : Bool) : (setEn c v s).encIn = s.encIn := rfl
@[simp] theorem setEn_encHeld (c : Channel) (v : Bool) : (setEn c v s).encHeld = s.encHeld := rfl
@[simp] theorem setEn_btnTaken (c : Channel) (v : Bool) : (setEn c v s).btnTaken = s.btnTaken := rfl
@[simp] theorem setEn_encTaken (c : Channel) (v : Bool) : (setEn c v s).encTaken = s.encTaken := rfl
@[simp] theorem setEn_idleTurns (c : Channel) (v : Bool) : (setEn c v s).idleTurns = s.idleTurns := rfl

/-! handBack -/

@[simp] theorem handBack_en (r : Returned) : (handBack r s).en = s.en := rfl
@[simp] theorem handBack_duty (r : Returned) : (handBack r s).duty = s.duty := rfl
@[simp] theorem handBack_sel (r : Returned) : (handBack r s).sel = s.sel := rfl
@[simp] theorem handBack_orb (r : Returned) : (handBack r s).orb = s.orb := rfl
@[simp] theorem handBack_outLatch (r : Returned) : (handBack r s).outLatch = s.outLatch := rfl
@[simp] theorem handBack_pwmCmp (r : Returned) : (handBack r s).pwmCmp = s.pwmCmp := rfl
@[simp] theorem handBack_ctx (r : Returned) : (handBack r s).ctx = s.ctx := rfl
@[simp] theorem handBack_qst (r : Returned) : (handBack r s).qst = s.qst := rfl
@[simp] theorem handBack_scanActive (r : Returned) : (handBack r s).scanActive = s.scanActive := rfl
@[simp] theorem handBack_scanI (r : Returned) : (handBack r s).scanI = s.scanI := rfl
@[simp] theorem handBack_hit (r : Returned) : (handBack r s).hit = s.hit := rfl
@[simp] theorem handBack_trace (r : Returned) : (handBack r s).trace = s.trace := rfl
@[simp] theorem handBack_scanSent (r : Returned) : (handBack r s).scanSent = s.scanSent := rfl
@[simp] theorem handBack_result (r : Returned) : (handBack r s).result = r := rfl
@[simp] theorem handBack_cmds (r : Returned) : (handBack r s).cmds = s.cmds := rfl
@[simp] theorem handBack_btnIn (r : Returned) : (handBack r s).btnIn = s.btnIn := rfl
@[simp] theorem handBack_encIn (r : Returned) : (handBack r s).encIn = s.encIn := rfl
@[simp] theorem handBack_encHeld (r : Returned) : (handBack r s).encHeld = s.encHeld := rfl
@[simp] theorem handBack_btnTaken (r : Returned) : (handBack r s).btnTaken = s.btnTaken := rfl
@[simp] theorem handBack_encTaken (r : Returned) : (handBack r s).encTaken = s.encTaken := rfl
@[simp] theorem handBack_idleTurns (r : Returned) : (handBack r s).idleTurns = s.idleTurns := rfl

/-! dropBtn -/

@[simp] theorem dropBtn_en : (dropBtn s).en = s.en := rfl
@[simp] theorem dropBtn_duty : (dropBtn s).duty = s.duty := rfl
@[simp] theorem dropBtn_sel : (dropBtn s).sel = s.sel := rfl
@[simp] theorem dropBtn_orb : (dropBtn s).orb = s.orb := rfl
@[simp] theorem dropBtn_outLatch : (dropBtn s).outLatch = s.outLatch := rfl
@[simp] theorem dropBtn_pwmCmp : (dropBtn s).pwmCmp = s.pwmCmp := rfl
@[simp] theorem dropBtn_ctx : (dropBtn s).ctx = s.ctx := rfl
@[simp] theorem dropBtn_qst : (dropBtn s).qst = s.qst := rfl
@[simp] theorem dropBtn_scanActive : (dropBtn s).scanActive = s.scanActive := rfl
@[simp] theorem dropBtn_scanI : (dropBtn s).scanI = s.scanI := rfl
@[simp] theorem dropBtn_hit : (dropBtn s).hit = s.hit := rfl
@[simp] theorem dropBtn_trace : (dropBtn s).trace = s.trace := rfl
@[simp] theorem dropBtn_scanSent : (dropBtn s).scanSent = s.scanSent := rfl
@[simp] theorem dropBtn_result : (dropBtn s).result = s.result := rfl
@[simp] theorem dropBtn_cmds : (dropBtn s).cmds = s.cmds := rfl
@[simp] theorem dropBtn_btnIn : (dropBtn s).btnIn = s.btnIn.tail := rfl
@[simp] theorem dropBtn_encIn : (dropBtn s).encIn = s.encIn := rfl
@[simp] theorem dropBtn_encHeld : (dropBtn s).encHeld = s.encHeld := rfl
@[simp] theorem dropBtn_btnTaken : (dropBtn s).btnTaken = s.btnTaken + 1 := rfl
@[simp] theorem dropBtn_encTaken : (dropBtn s).encTaken = s.encTaken := rfl
@[simp] theorem dropBtn_idleTurns : (dropBtn s).idleTurns = s.idleTurns := rfl

/-! dropEnc -/

@[simp] theorem dropEnc_en : (dropEnc s).en = s.en := rfl
@[simp] theorem dropEnc_duty : (dropEnc s).duty = s.duty := rfl
@[simp] theorem dropEnc_sel : (dropEnc s).sel = s.sel := rfl
@[simp] theorem dropEnc_orb : (dropEnc s).orb = s.orb := rfl
@[simp] theorem dropEnc_outLatch : (dropEnc s).outLatch = s.outLatch := rfl
@[simp] theorem dropEnc_pwmCmp : (dropEnc s).pwmCmp = s.pwmCmp := rfl
@[simp] theorem dropEnc_ctx : (dropEnc s).ctx = s.ctx := rfl
@[simp] theorem dropEnc_qst : (dropEnc s).qst = s.qst := rfl
@[simp] theorem dropEnc_scanActive : (dropEnc s).scanActive = s.scanActive := rfl
@[simp] theorem dropEnc_scanI : (dropEnc s).scanI = s.scanI := rfl
@[simp] theorem dropEnc_hit : (dropEnc s).hit = s.hit := rfl
@[simp] theorem dropEnc_trace : (dropEnc s).trace = s.trace := rfl
@[simp] theorem dropEnc_scanSent : (dropEnc s).scanSent = s.scanSent := rfl
@[simp] theorem dropEnc_result : (dropEnc s).result = s.result := rfl
@[simp] theorem dropEnc_cmds : (dropEnc s).cmds = s.cmds := rfl
@[simp] theorem dropEnc_btnIn : (dropEnc s).btnIn = s.btnIn := rfl
@[simp] theorem dropEnc_encIn : (dropEnc s).encIn = s.encIn.tail := rfl
@[simp] theorem dropEnc_encHeld : (dropEnc s).encHeld = s.encHeld := rfl
@[simp] theorem dropEnc_btnTaken : (dropEnc s).btnTaken = s.btnTaken := rfl
@[simp] theorem dropEnc_encTaken : (dropEnc s).encTaken = s.encTaken + 1 := rfl
@[simp] theorem dropEnc_idleTurns : (dropEnc s).idleTurns = s.idleTurns := rfl

/-! enterHandler -/

@[simp] theorem enterHandler_en (c : Ctx) : (enterHandler c s).en = s.en := rfl
@[simp] theorem enterHandler_duty (c : Ctx) : (enterHandler c s).duty = s.duty := rfl
@[simp] theorem enterHandler_sel (c : Ctx) : (enterHandler c s).sel = s.sel := rfl
@[simp] theorem enterHandler_orb (c : Ctx) : (enterHandler c s).orb = s.orb := rfl
@[simp] theorem enterHandler_outLatch (c : Ctx) : (enterHandler c s).outLatch = s.outLatch := rfl
@[simp] theorem enterHandler_pwmCmp (c : Ctx) : (enterHandler c s).pwmCmp = s.pwmCmp := rfl
@[simp] theorem enterHandler_ctx (c : Ctx) : (enterHandler c s).ctx = c := rfl
@[simp] theorem enterHandler_qst (c : Ctx) : (enterHandler c s).qst = s.qst := rfl
@[simp] theorem enterHandler_scanActive (c : Ctx) : (enterHandler c s).scanActive = s.scanActive := rfl
@[simp] theorem enterHandler_scanI (c : Ctx) : (enterHandler c s).scanI = s.scanI := rfl
@[simp] theorem enterHandler_hit (c : Ctx) : (enterHandler c s).hit = s.hit := rfl
@[simp] theorem enterHandler_trace (c : Ctx) : (enterHandler c s).trace = s.trace := rfl
@[simp] theorem enterHandler_scanSent (c : Ctx) : (enterHandler c s).scanSent = s.scanSent := rfl
@[simp] theorem enterHandler_result (c : Ctx) : (enterHandler c s).result = s.result := rfl
@[simp] theorem enterHandler_cmds (c : Ctx) : (enterHandler c s).cmds = s.cmds := rfl
@[simp] theorem enterHandler_btnIn (c : Ctx) : (enterHandler c s).btnIn = s.btnIn := rfl
@[simp] theorem enterHandler_encIn (c : Ctx) : (enterHandler c s).encIn = s.encIn := rfl
@[simp] theorem enterHandler_encHeld (c : Ctx) : (enterHandler c s).encHeld = s.encHeld := rfl
@[simp] theorem enterHandler_btnTaken (c : Ctx) : (enterHandler c s).btnTaken = s.btnTaken := rfl
@[simp] theorem enterHandler_encTaken (c : Ctx) : (enterHandler c s).encTaken = s.encTaken := rfl
@[simp] theorem enterHandler_idleTurns (c : Ctx) : (enterHandler c s).idleTurns = s.idleTurns := rfl

/-! returnToIdle -/

@[simp] theorem returnToIdle_en : (returnToIdle s).en = s.en := rfl
@[simp] theorem returnToIdle_duty : (returnToIdle s).duty = s.duty := rfl
@[simp] theorem returnToIdle_sel : (returnToIdle s).sel = s.sel := rfl
@[simp] theorem returnToIdle_orb : (returnToIdle s).orb = s.orb := rfl
@[simp] theorem returnToIdle_outLatch : (returnToIdle s).outLatch = s.outLatch := rfl
@[simp] theorem returnToIdle_pwmCmp : (returnToIdle s).pwmCmp = s.pwmCmp := rfl
@[simp] theorem returnToIdle_ctx : (returnToIdle s).ctx = .idle := rfl
@[simp] theorem returnToIdle_qst : (returnToIdle s).qst = s.qst := rfl
@[simp] theorem returnToIdle_scanActive : (returnToIdle s).scanActive = s.scanActive := rfl
@[simp] theorem returnToIdle_scanI : (returnToIdle s).scanI = s.scanI := rfl
@[simp] theorem returnToIdle_hit : (returnToIdle s).hit = s.hit := rfl
@[simp] theorem returnToIdle_trace : (returnToIdle s).trace = s.trace := rfl
@[simp] theorem returnToIdle_scanSent : (returnToIdle s).scanSent = s.scanSent := rfl
@[simp] theorem returnToIdle_result : (returnToIdle s).result = s.result := rfl
@[simp] theorem returnToIdle_cmds : (returnToIdle s).cmds = s.cmds := rfl
@[simp] theorem returnToIdle_btnIn : (returnToIdle s).btnIn = s.btnIn := rfl
@[simp] theorem returnToIdle_encIn : (returnToIdle s).encIn = s.encIn := rfl
@[simp] theorem returnToIdle_encHeld : (returnToIdle s).encHeld = s.encHeld := rfl
@[simp] theorem returnToIdle_btnTaken : (returnToIdle s).btnTaken = s.btnTaken := rfl
@[simp] theorem returnToIdle_encTaken : (returnToIdle s).encTaken = s.encTaken := rfl
@[simp] theorem returnToIdle_idleTurns : (returnToIdle s).idleTurns = s.idleTurns := rfl

/-! orbSet -/

@[simp] theorem orbSet_en (c : Channel) (v : Bool) : (orbSet c v s).en = s.en := rfl
@[simp] theorem orbSet_duty (c : Channel) (v : Bool) : (orbSet c v s).duty = s.duty := rfl
@[simp] theorem orbSet_sel (c : Channel) (v : Bool) : (orbSet c v s).sel = s.sel := rfl
@[simp] theorem orbSet_orb (c : Channel) (v : Bool) : (orbSet c v s).orb = assignEnable c v s.orb := rfl
@[simp] theorem orbSet_outLatch (c : Channel) (v : Bool) : (orbSet c v s).outLatch = assignEnable c v s.orb := rfl
@[simp] theorem orbSet_pwmCmp (c : Channel) (v : Bool) : (orbSet c v s).pwmCmp = s.pwmCmp := rfl
@[simp] theorem orbSet_ctx (c : Channel) (v : Bool) : (orbSet c v s).ctx = s.ctx := rfl
@[simp] theorem orbSet_qst (c : Channel) (v : Bool) : (orbSet c v s).qst = s.qst := rfl
@[simp] theorem orbSet_scanActive (c : Channel) (v : Bool) : (orbSet c v s).scanActive = s.scanActive := rfl
@[simp] theorem orbSet_scanI (c : Channel) (v : Bool) : (orbSet c v s).scanI = s.scanI := rfl
@[simp] theorem orbSet_hit (c : Channel) (v : Bool) : (orbSet c v s).hit = s.hit := rfl
@[simp] theorem orbSet_trace (c : Channel) (v : Bool) : (orbSet c v s).trace = s.trace ++ [.tx (assignEnable c v s.orb)] := rfl
@[simp] theorem orbSet_scanSent (c : Channel) (v : Bool) : (orbSet c v s).scanSent = s.scanSent := rfl
@[simp] theorem orbSet_result (c : Channel) (v : Bool) : (orbSet c v s).result = s.result := rfl
@[simp] theorem orbSet_cmds (c : Channel) (v : Bool) : (orbSet c v s).cmds = s.cmds := rfl
@[simp] theorem orbSet_btnIn (c : Channel) (v : Bool) : (orbSet c v s).btnIn = s.btnIn := rfl
@[simp] theorem orbSet_encIn (c : Channel) (v : Bool) : (orbSet c v s).encIn = s.encIn := rfl
@[simp] theorem orbSet_encHeld (c : Channel) (v : Bool) : (orbSet c v s).encHeld = s.encHeld := rfl
@[simp] theorem orbSet_btnTaken (c : Channel) (v : Bool) : (orbSet c v s).btnTaken = s.btnTaken := rfl
@[simp] theorem orbSet_encTaken (c : Channel) (v : Bool) : (orbSet c v s).encTaken = s.encTaken := rfl
@[simp] theorem orbSet_idleTurns (c : Channel) (v : Bool) : (orbSet c v s).idleTurns = s.idleTurns := rfl

/-! selNext -/

@[simp] theorem selNext_en : (selNext s).en = s.en := rfl
@[simp] theorem selNext_duty : (selNext s).duty = s.duty := rfl
@[simp] theorem selNext_sel : (selNext s).sel = nextChannel s.sel := rfl
@[simp] theorem selNext_orb : (selNext s).orb = s.orb := rfl
@[simp] theorem selNext_outLatch : (selNext s).outLatch = s.outLatch := rfl
@[simp] theorem selNext_pwmCmp : (selNext s).pwmCmp = s.pwmCmp := rfl
@[simp] theorem selNext_ctx : (selNext s).ctx = s.ctx := rfl
@[simp] theorem selNext_qst : (selNext s).qst = s.qst := rfl
@[simp] theorem selNext_scanActive : (selNext s).scanActive = s.scanActive := rfl
@[simp] theorem selNext_scanI : (selNext s).scanI = s.scanI := rfl
@[simp] theorem selNext_hit : (selNext s).hit = s.hit := rfl
@[simp] theorem selNext_trace : (selNext s).trace = s.trace := rfl
@[simp] theorem selNext_scanSent : (selNext s).scanSent = s.scanSent := rfl
@[simp] theorem selNext_result : (selNext s).result = s.result := rfl
@[simp] theorem selNext_cmds : (selNext s).cmds = s.cmds := rfl
@[simp] theorem selNext_btnIn : (selNext s).btnIn = s.btnIn := rfl
@[simp] theorem selNext_encIn : (selNext s).encIn = s.encIn := rfl
@[simp] theorem selNext_encHeld : (selNext s).encHeld = s.encHeld := rfl
@[simp] theorem selNext_btnTaken : (selNext s).btnTaken = s.btnTaken := rfl
@[simp] theorem selNext_encTaken : (selNext s).encTaken = s.encTaken := rfl
@[simp] theorem selNext_idleTurns : (selNext s).idleTurns = s.idleTurns := rfl

/-! scanStart -/

@[simp] theorem scanStart_en : (scanStart s).en = s.en := rfl
@[simp] theorem scanStart_duty : (scanStart s).duty = s.duty := rfl
@[simp] theorem scanStart_sel : (scanStart s).sel = s.sel := rfl
@[simp] theorem scanStart_orb : (scanStart s).orb = s.orb := rfl
@[simp] theorem scanStart_outLatch : (scanStart s).outLatch = s.outLatch := rfl
@[simp] theorem scanStart_pwmCmp : (scanStart s).pwmCmp = s.pwmCmp := rfl
@[simp] theorem scanStart_ctx : (scanStart s).ctx = s.ctx := rfl
@[simp] theorem scanStart_qst : (scanStart s).qst = s.qst := rfl
@[simp] theorem scanStart_scanActive : (scanStart s).scanActive = true := rfl
@[simp] theorem scanStart_scanI : (scanStart s).scanI = 0 := rfl
@[simp] theorem scanStart_hit : (scanStart s).hit = none := rfl
@[simp] theorem scanStart_trace : (scanStart s).trace = s.trace := rfl
@[simp] theorem scanStart_scanSent : (scanStart s).scanSent = false := rfl
@[simp] theorem scanStart_result : (scanStart s).result = s.result := rfl
@[simp] theorem scanStart_cmds : (scanStart s).cmds = s.cmds := rfl
@[simp] theorem scanStart_btnIn : (scanStart s).btnIn = s.btnIn := rfl
@[simp] theorem scanStart_encIn : (scanStart s).encIn = s.encIn := rfl
@[simp] theorem scanStart_encHeld : (scanStart s).encHeld = s.encHeld := rfl
@[simp] theorem scanStart_btnTaken : (scanStart s).btnTaken = s.btnTaken := rfl
@[simp] theorem scanStart_encTaken : (scanStart s).encTaken = s.encTaken := rfl
@[simp] theorem scanStart_idleTurns : (scanStart s).idleTurns = s.idleTurns := rfl

/-! scanSend -/

@[simp] theorem scanSend_en (i : ButtonId) : (scanSend i s).en = s.en := rfl
@[simp] theorem scanSend_duty (i : ButtonId) : (scanSend i s).duty = s.duty := rfl
@[simp] theorem scanSend_sel (i : ButtonId) : (scanSend i s).sel = s.sel := rfl
@[simp] theorem scanSend_orb (i : ButtonId) : (scanSend i s).orb = s.orb := rfl
@[simp] theorem scanSend_outLatch (i : ButtonId) : (scanSend i s).outLatch = candidate i s.orb := rfl
@[simp] theorem scanSend_pwmCmp (i : ButtonId) : (scanSend i s).pwmCmp = s.pwmCmp := rfl
@[simp] theorem scanSend_ctx (i : ButtonId) : (scanSend i s).ctx = s.ctx := rfl
@[simp] theorem scanSend_qst (i : ButtonId) : (scanSend i s).qst = s.qst := rfl
@[simp] theorem scanSend_scanActive (i : ButtonId) : (scanSend i s).scanActive = s.scanActive := rfl
@[simp] theorem scanSend_scanI (i : ButtonId) : (scanSend i s).scanI = s.scanI := rfl
@[simp] theorem scanSend_hit (i : ButtonId) : (scanSend i s).hit = s.hit := rfl
@[simp] theorem scanSend_trace (i : ButtonId) : (scanSend i s).trace = s.trace ++ [.tx (candidate i s.orb)] := rfl
@[simp] theorem scanSend_scanSent (i : ButtonId) : (scanSend i s).scanSent = true := rfl
@[simp] theorem scanSend_result (i : ButtonId) : (scanSend i s).result = s.result := rfl
@[simp] theorem scanSend_cmds (i : ButtonId) : (scanSend i s).cmds = s.cmds := rfl
@[simp] theorem scanSend_btnIn (i : ButtonId) : (scanSend i s).btnIn = s.btnIn := rfl
@[simp] theorem scanSend_encIn (i : ButtonId) : (scanSend i s).encIn = s.encIn := rfl
@[simp] theorem scanSend_encHeld (i : ButtonId) : (scanSend i s).encHeld = s.encHeld := rfl
@[simp] theorem scanSend_btnTaken (i : ButtonId) : (scanSend i s).btnTaken = s.btnTaken := rfl
@[simp] theorem scanSend_encTaken (i : ButtonId) : (scanSend i s).encTaken = s.encTaken := rfl
@[simp] theorem scanSend_idleTurns (i : ButtonId) : (scanSend i s).idleTurns = s.idleTurns := rfl

/-! scanSample -/

@[simp] theorem scanSample_en (i : ButtonId) : (scanSample i s).en = s.en := rfl
@[simp] theorem scanSample_duty (i : ButtonId) : (scanSample i s).duty = s.duty := rfl
@[simp] theorem scanSample_sel (i : ButtonId) : (scanSample i s).sel = s.sel := rfl
@[simp] theorem scanSample_orb (i : ButtonId) : (scanSample i s).orb = s.orb := rfl
@[simp] theorem scanSample_outLatch (i : ButtonId) : (scanSample i s).outLatch = s.outLatch := rfl
@[simp] theorem scanSample_pwmCmp (i : ButtonId) : (scanSample i s).pwmCmp = s.pwmCmp := rfl
@[simp] theorem scanSample_ctx (i : ButtonId) : (scanSample i s).ctx = s.ctx := rfl
@[simp] theorem scanSample_qst (i : ButtonId) : (scanSample i s).qst = s.qst := rfl
@[simp] theorem scanSample_scanActive (i : ButtonId) : (scanSample i s).scanActive = s.scanActive := rfl
@[simp] theorem scanSample_scanI (i : ButtonId) : (scanSample i s).scanI = i.succ := rfl
@[simp] theorem scanSample_hit (i : ButtonId) : (scanSample i s).hit = recordHit (btnAt s 0) i s.hit := rfl
@[simp] theorem scanSample_trace (i : ButtonId) : (scanSample i s).trace = s.trace := rfl
@[simp] theorem scanSample_scanSent (i : ButtonId) : (scanSample i s).scanSent = false := rfl
@[simp] theorem scanSample_result (i : ButtonId) : (scanSample i s).result = s.result := rfl
@[simp] theorem scanSample_cmds (i : ButtonId) : (scanSample i s).cmds = s.cmds := rfl
@[simp] theorem scanSample_btnIn (i : ButtonId) : (scanSample i s).btnIn = s.btnIn.tail := rfl
@[simp] theorem scanSample_encIn (i : ButtonId) : (scanSample i s).encIn = s.encIn := rfl
@[simp] theorem scanSample_encHeld (i : ButtonId) : (scanSample i s).encHeld = s.encHeld := rfl
@[simp] theorem scanSample_btnTaken (i : ButtonId) : (scanSample i s).btnTaken = s.btnTaken + 1 := rfl
@[simp] theorem scanSample_encTaken (i : ButtonId) : (scanSample i s).encTaken = s.encTaken := rfl
@[simp] theorem scanSample_idleTurns (i : ButtonId) : (scanSample i s).idleTurns = s.idleTurns := rfl

/-! scanRestore -/

@[simp] theorem scanRestore_en : (scanRestore s).en = s.en := rfl
@[simp] theorem scanRestore_duty : (scanRestore s).duty = s.duty := rfl
@[simp] theorem scanRestore_sel : (scanRestore s).sel = s.sel := rfl
@[simp] theorem scanRestore_orb : (scanRestore s).orb = s.orb := rfl
@[simp] theorem scanRestore_outLatch : (scanRestore s).outLatch = s.orb := rfl
@[simp] theorem scanRestore_pwmCmp : (scanRestore s).pwmCmp = s.pwmCmp := rfl
@[simp] theorem scanRestore_ctx : (scanRestore s).ctx = s.ctx := rfl
@[simp] theorem scanRestore_qst : (scanRestore s).qst = s.qst := rfl
@[simp] theorem scanRestore_scanActive : (scanRestore s).scanActive = s.scanActive := rfl
@[simp] theorem scanRestore_scanI : (scanRestore s).scanI = s.scanI := rfl
@[simp] theorem scanRestore_hit : (scanRestore s).hit = s.hit := rfl
@[simp] theorem scanRestore_trace : (scanRestore s).trace = s.trace ++ [.tx s.orb] := rfl
@[simp] theorem scanRestore_scanSent : (scanRestore s).scanSent = true := rfl
@[simp] theorem scanRestore_result : (scanRestore s).result = s.result := rfl
@[simp] theorem scanRestore_cmds : (scanRestore s).cmds = s.cmds := rfl
@[simp] theorem scanRestore_btnIn : (scanRestore s).btnIn = s.btnIn := rfl
@[simp] theorem scanRestore_encIn : (scanRestore s).encIn = s.encIn := rfl
@[simp] theorem scanRestore_encHeld : (scanRestore s).encHeld = s.encHeld := rfl
@[simp] theorem scanRestore_btnTaken : (scanRestore s).btnTaken = s.btnTaken := rfl
@[simp] theorem scanRestore_encTaken : (scanRestore s).encTaken = s.encTaken := rfl
@[simp] theorem scanRestore_idleTurns : (scanRestore s).idleTurns = s.idleTurns := rfl

/-! scanEnd -/

@[simp] theorem scanEnd_en : (scanEnd s).en = s.en := rfl
@[simp] theorem scanEnd_duty : (scanEnd s).duty = s.duty := rfl
@[simp] theorem scanEnd_sel : (scanEnd s).sel = s.sel := rfl
@[simp] theorem scanEnd_orb : (scanEnd s).orb = s.orb := rfl
@[simp] theorem scanEnd_outLatch : (scanEnd s).outLatch = s.outLatch := rfl
@[simp] theorem scanEnd_pwmCmp : (scanEnd s).pwmCmp = s.pwmCmp := rfl
@[simp] theorem scanEnd_ctx : (scanEnd s).ctx = s.ctx := rfl
@[simp] theorem scanEnd_qst : (scanEnd s).qst = s.qst := rfl
@[simp] theorem scanEnd_scanActive : (scanEnd s).scanActive = false := rfl
@[simp] theorem scanEnd_scanI : (scanEnd s).scanI = 0 := rfl
@[simp] theorem scanEnd_hit : (scanEnd s).hit = s.hit := rfl
@[simp] theorem scanEnd_trace : (scanEnd s).trace = s.trace := rfl
@[simp] theorem scanEnd_scanSent : (scanEnd s).scanSent = false := rfl
@[simp] theorem scanEnd_result : (scanEnd s).result = if s.ctx = .idle then .button s.hit else s.result := rfl
@[simp] theorem scanEnd_cmds : (scanEnd s).cmds = s.cmds := rfl
@[simp] theorem scanEnd_btnIn : (scanEnd s).btnIn = s.btnIn := rfl
@[simp] theorem scanEnd_encIn : (scanEnd s).encIn = s.encIn := rfl
@[simp] theorem scanEnd_encHeld : (scanEnd s).encHeld = s.encHeld := rfl
@[simp] theorem scanEnd_btnTaken : (scanEnd s).btnTaken = s.btnTaken := rfl
@[simp] theorem scanEnd_encTaken : (scanEnd s).encTaken = s.encTaken := rfl
@[simp] theorem scanEnd_idleTurns : (scanEnd s).idleTurns = s.idleTurns := rfl

end Sys2Proof.Machine
end

