-- ==== Sys2Proof/Laws/Ops.lean ====
section
/-!
SUPPORT. One lemma for each shared operation that says everything it can do: samples, guards, operands, the output byte,
and the composite effects as one state.
-/

namespace Sys2Proof.Machine

/-! Samples -/

theorem btnAt_dropBtn (s : State) (k : Nat) : btnAt (dropBtn s) k = btnAt s (k + 1) := by
  simp [btnAt, Nat.add_comm, Nat.add_left_comm]

theorem encAt_dropEnc (s : State) (k : Nat) : encAt (dropEnc s) k = encAt s (k + 1) := by
  simp [encAt, Nat.add_comm, Nat.add_left_comm]

/-- A button sample depends on the lined-up list and the count only. -/
theorem btnAt_congr {s t : State} (h : s.btnIn = t.btnIn) (h' : s.btnTaken = t.btnTaken) (k : Nat) :
    btnAt s k = btnAt t k := by
  simp [btnAt, h, h']

/-- An encoder sample depends on the lined-up list, the held pair and the count only. -/
theorem encAt_congr {s t : State} (h : s.encIn = t.encIn) (hh : s.encHeld = t.encHeld) (h' : s.encTaken = t.encTaken)
    (k : Nat) : encAt s k = encAt t k := by
  simp [encAt, h, hh, h']

/-! Guards -/

theorem whenIdle_next {s t : State} {k : Answer} :
    whenIdle s k = .next t ↔ s.ctx = .idle ∧ k = .next t := by
  unfold whenIdle; split <;> simp_all

theorem whenBoot_next {s t : State} {k : Answer} :
    whenBoot s k = .next t ↔ s.ctx = .boot ∧ k = .next t := by
  unfold whenBoot; split <;> simp_all

theorem whenNoScan_next {s t : State} {k : Answer} :
    whenNoScan s k = .next t ↔ s.scanActive = false ∧ k = .next t := by
  unfold whenNoScan; split <;> simp_all

theorem whenDecoderIdle_next {s t : State} {k : Answer} :
    whenDecoderIdle s k = .next t ↔ s.qst = .idle ∧ k = .next t := by
  unfold whenDecoderIdle; split <;> simp_all

theorem withChannel_next {n : BitVec 2} {k : Channel → Answer} {t : State} :
    withChannel n k = .next t ↔ ∃ c, channelOf n = some c ∧ k c = .next t := by
  unfold withChannel; split <;> simp_all

theorem withRotation_next {n : BitVec 2} {k : Rotation → Answer} {t : State} :
    withRotation n k = .next t ↔ ∃ d, rotationOf n = some d ∧ k d = .next t := by
  unfold withRotation; split <;> simp_all

@[simp] theorem whenIdle_idle {s : State} {k : Answer} (h : s.ctx = .idle) : whenIdle s k = k := by
  simp [whenIdle, h]

@[simp] theorem whenBoot_boot {s : State} {k : Answer} (h : s.ctx = .boot) : whenBoot s k = k := by
  simp [whenBoot, h]

@[simp] theorem whenNoScan_off {s : State} {k : Answer} (h : s.scanActive = false) : whenNoScan s k = k := by
  simp [whenNoScan, h]

@[simp] theorem whenDecoderIdle_idle {s : State} {k : Answer} (h : s.qst = .idle) : whenDecoderIdle s k = k := by
  simp [whenDecoderIdle, h]

/-! Operands -/

/-- A field that is not 3 names the channel with its number. -/
theorem channelOf_eq_some {n : BitVec 2} (h : channelOk n = true) : ∃ c, channelOf n = some c := by
  revert n; decide

@[simp] theorem channelOf_ofNat (c : Channel) : channelOf (BitVec.ofNat 2 c.val) = some c := by
  revert c; decide

@[simp] theorem rotationOf_rotationBits (d : Rotation) : rotationOf (rotationBits d) = some d := by
  cases d <;> rfl

/-- A field that is not 0b10 is a RotationEvent. -/
theorem rotationOf_eq_some {n : BitVec 2} (h : rotationOk n = true) : ∃ d, rotationOf n = some d :=
  Option.isSome_iff_exists.mp (by revert n; decide)

/-! The output byte -/

/-- ORB.SET's byte bit by bit (R122, R123). -/
theorem assignEnable_getLsbD (c : Channel) (v : Bool) (b : Byte) (k : Nat) (hk : k < 8) :
    (assignEnable c v b).getLsbD k = if k = enBit c then v else b.getLsbD k := by
  fin_cases c <;> interval_cases k <;> cases v <;> simp [assignEnable, enMask, enBit]

/-- ORB.SET keeps the indicator bits (R123). -/
@[simp] theorem indicatorBits_assignEnable (c : Channel) (v : Bool) (b : Byte) :
    indicatorBits (assignEnable c v b) = indicatorBits b := by
  have hc : enBit c < 3 := by simp [enBit]; omega
  apply BitVec.eq_of_getLsbD_eq
  intro i hi
  have h8 : 3 + i < 8 := by omega
  simp [indicatorBits, assignEnable_getLsbD c v b (3 + i) h8, show 3 + i ≠ enBit c by omega]

theorem enBit_lt (c : Channel) : enBit c < 8 := by simp [enBit]; omega

theorem enBit_injective {c d : Channel} : enBit c = enBit d ↔ c = d := by
  revert c d; decide

/-- ORB.SET's effect on each enable line (R122, R123). -/
theorem enableLine_assignEnable (c d : Channel) (v : Bool) (b : Byte) :
    enableLine d (assignEnable c v b) = if d = c then v else enableLine d b := by
  simp [enableLine, assignEnable_getLsbD c v b (enBit d) (enBit_lt d), enBit_injective]

/-- A candidate byte keeps bits 3:0 of ORB (R93). -/
theorem keptBits_candidate (i : ButtonId) (b : Byte) : keptBits (candidate i b) = keptBits b := by
  revert i b; decide

/-- A candidate byte carries the scan pattern in bits 7:4 (R93). -/
theorem scanLines_candidate (i : ButtonId) (b : Byte) : scanLines (candidate i b) = scanLines (scanPat i) := by
  revert i b; decide

/-- The startup byte carries IND in bits 7:3 (R53). -/
@[simp] theorem indicatorBits_startupByte (ind : BitVec 5) : indicatorBits (startupByte ind) = ind := by
  revert ind; decide

theorem enableLine_startupByte (ind : BitVec 5) (c : Channel) : enableLine c (startupByte ind) = false := by
  revert ind c; decide

/-! Arithmetic -/

theorem nextChannel_val (c : Channel) : (nextChannel c).val = (c.val + 1) % 3 := by
  revert c; decide

theorem incDuty_val (d : Duty) : (incDuty d).val = min 100 (d.val + 1) := by
  revert d; decide

theorem decDuty_val (d : Duty) : (decDuty d).val = d.val - 1 := by
  revert d; decide

/-! Composite effects, each as one state -/

/-- TOGGLE c as one state (R186). -/
theorem togglePower_eq (c : Channel) (s : State) :
    togglePower c s =
      { s with
        en := s.en.set c (!s.en[c])
        orb := assignEnable c (!s.en[c]) s.orb
        outLatch := assignEnable c (!s.en[c]) s.orb
        pwmCmp := if c = adjCh then (if s.en[c] then 0 else s.duty) else s.pwmCmp
        trace := s.trace ++ .tx (assignEnable c (!s.en[c]) s.orb) ::
          (if c = adjCh then [.pwmw (if s.en[c] then 0 else s.duty)] else []) } := by
  by_cases hc : c = adjCh <;> cases h : s.en[c] <;>
    simp_all [togglePower, toggleSync, orbSet, setEn, tx, pwmWrite, emit]

/-- ADJ inc as one state, with the adjustable channel selected (R190, R192, R193). -/
theorem adjust_selected (inc : Bool) (s : State) (h : s.sel = adjCh) :
    adjust inc s =
      { s with
        duty := adjustDuty inc s.duty
        pwmCmp := if s.en[adjCh] then adjustDuty inc s.duty else s.pwmCmp
        trace := s.trace ++ (if s.en[adjCh] then [.pwmw (adjustDuty inc s.duty)] else []) } := by
  cases he : s.en[adjCh] <;> simp_all [adjust, adjustSync, pwmWrite, emit]

/-- ADJ does nothing on a fixed channel (R194). -/
theorem adjust_fixed (inc : Bool) (s : State) (h : s.sel ≠ adjCh) : adjust inc s = s := by
  simp [adjust, h]

/-- INIT as one state (R260). -/
theorem startup_eq (ind : BitVec 5) (s : State) :
    startup ind s =
      { s with
        en := #v[false, false, false]
        duty := 0
        sel := 0
        orb := startupByte ind
        outLatch := startupByte ind
        pwmCmp := 0
        ctx := .idle
        qst := .idle
        scanActive := false
        scanI := 0
        hit := none
        trace := s.trace ++ [.tx (startupByte ind), .pwmw 0, .render 0 false 0]
        scanSent := false } := by
  simp [startup, initRegisters, returnToIdle, render, pwmWrite, tx, emit]

end Sys2Proof.Machine
end

