-- ==== Sys2Proof/Laws/Effects.lean ====
section
/-!
SUPPORT. The frames of the branching effects, one lemma per field that the effect leaves alone: TOGGLE
(spec/43_regulator_bank_pwm.md R186, R187), ADJ (R190), EV.ROT and EV.BTN (spec/44_control_dispatcher.md R212, R206).
-/

namespace Sys2Proof.Machine

variable (s : State)

/-! TOGGLE -/

@[simp] theorem togglePower_duty (c : Channel) : (togglePower c s).duty = s.duty := by
  rw [togglePower_eq]
@[simp] theorem togglePower_sel (c : Channel) : (togglePower c s).sel = s.sel := by
  rw [togglePower_eq]
@[simp] theorem togglePower_ctx (c : Channel) : (togglePower c s).ctx = s.ctx := by
  rw [togglePower_eq]
@[simp] theorem togglePower_qst (c : Channel) : (togglePower c s).qst = s.qst := by
  rw [togglePower_eq]
@[simp] theorem togglePower_scanActive (c : Channel) : (togglePower c s).scanActive = s.scanActive := by
  rw [togglePower_eq]
@[simp] theorem togglePower_scanI (c : Channel) : (togglePower c s).scanI = s.scanI := by
  rw [togglePower_eq]
@[simp] theorem togglePower_hit (c : Channel) : (togglePower c s).hit = s.hit := by
  rw [togglePower_eq]
@[simp] theorem togglePower_scanSent (c : Channel) : (togglePower c s).scanSent = s.scanSent := by
  rw [togglePower_eq]
@[simp] theorem togglePower_result (c : Channel) : (togglePower c s).result = s.result := by
  rw [togglePower_eq]
@[simp] theorem togglePower_cmds (c : Channel) : (togglePower c s).cmds = s.cmds := by
  rw [togglePower_eq]
@[simp] theorem togglePower_btnIn (c : Channel) : (togglePower c s).btnIn = s.btnIn := by
  rw [togglePower_eq]
@[simp] theorem togglePower_encIn (c : Channel) : (togglePower c s).encIn = s.encIn := by
  rw [togglePower_eq]
@[simp] theorem togglePower_encHeld (c : Channel) : (togglePower c s).encHeld = s.encHeld := by
  rw [togglePower_eq]
@[simp] theorem togglePower_btnTaken (c : Channel) : (togglePower c s).btnTaken = s.btnTaken := by
  rw [togglePower_eq]
@[simp] theorem togglePower_encTaken (c : Channel) : (togglePower c s).encTaken = s.encTaken := by
  rw [togglePower_eq]
@[simp] theorem togglePower_idleTurns (c : Channel) : (togglePower c s).idleTurns = s.idleTurns := by
  rw [togglePower_eq]

/-! ADJ -/

@[simp] theorem adjust_en (inc : Bool) : (adjust inc s).en = s.en := by
  by_cases h : s.sel = adjCh <;> simp [adjust_selected, adjust_fixed, h]
@[simp] theorem adjust_sel (inc : Bool) : (adjust inc s).sel = s.sel := by
  by_cases h : s.sel = adjCh <;> simp [adjust_selected, adjust_fixed, h]
@[simp] theorem adjust_orb (inc : Bool) : (adjust inc s).orb = s.orb := by
  by_cases h : s.sel = adjCh <;> simp [adjust_selected, adjust_fixed, h]
@[simp] theorem adjust_outLatch (inc : Bool) : (adjust inc s).outLatch = s.outLatch := by
  by_cases h : s.sel = adjCh <;> simp [adjust_selected, adjust_fixed, h]
@[simp] theorem adjust_ctx (inc : Bool) : (adjust inc s).ctx = s.ctx := by
  by_cases h : s.sel = adjCh <;> simp [adjust_selected, adjust_fixed, h]
@[simp] theorem adjust_qst (inc : Bool) : (adjust inc s).qst = s.qst := by
  by_cases h : s.sel = adjCh <;> simp [adjust_selected, adjust_fixed, h]
@[simp] theorem adjust_scanActive (inc : Bool) : (adjust inc s).scanActive = s.scanActive := by
  by_cases h : s.sel = adjCh <;> simp [adjust_selected, adjust_fixed, h]
@[simp] theorem adjust_scanI (inc : Bool) : (adjust inc s).scanI = s.scanI := by
  by_cases h : s.sel = adjCh <;> simp [adjust_selected, adjust_fixed, h]
@[simp] theorem adjust_hit (inc : Bool) : (adjust inc s).hit = s.hit := by
  by_cases h : s.sel = adjCh <;> simp [adjust_selected, adjust_fixed, h]
@[simp] theorem adjust_scanSent (inc : Bool) : (adjust inc s).scanSent = s.scanSent := by
  by_cases h : s.sel = adjCh <;> simp [adjust_selected, adjust_fixed, h]
@[simp] theorem adjust_result (inc : Bool) : (adjust inc s).result = s.result := by
  by_cases h : s.sel = adjCh <;> simp [adjust_selected, adjust_fixed, h]
@[simp] theorem adjust_cmds (inc : Bool) : (adjust inc s).cmds = s.cmds := by
  by_cases h : s.sel = adjCh <;> simp [adjust_selected, adjust_fixed, h]
@[simp] theorem adjust_btnIn (inc : Bool) : (adjust inc s).btnIn = s.btnIn := by
  by_cases h : s.sel = adjCh <;> simp [adjust_selected, adjust_fixed, h]
@[simp] theorem adjust_encIn (inc : Bool) : (adjust inc s).encIn = s.encIn := by
  by_cases h : s.sel = adjCh <;> simp [adjust_selected, adjust_fixed, h]
@[simp] theorem adjust_encHeld (inc : Bool) : (adjust inc s).encHeld = s.encHeld := by
  by_cases h : s.sel = adjCh <;> simp [adjust_selected, adjust_fixed, h]
@[simp] theorem adjust_btnTaken (inc : Bool) : (adjust inc s).btnTaken = s.btnTaken := by
  by_cases h : s.sel = adjCh <;> simp [adjust_selected, adjust_fixed, h]
@[simp] theorem adjust_encTaken (inc : Bool) : (adjust inc s).encTaken = s.encTaken := by
  by_cases h : s.sel = adjCh <;> simp [adjust_selected, adjust_fixed, h]
@[simp] theorem adjust_idleTurns (inc : Bool) : (adjust inc s).idleTurns = s.idleTurns := by
  by_cases h : s.sel = adjCh <;> simp [adjust_selected, adjust_fixed, h]

/-! EV.ROT -/

@[simp] theorem rotationEvent_en (d : Rotation) : (rotationEvent d s).en = s.en := by
  cases d <;> by_cases h : s.sel = adjCh <;> simp [rotationEvent, h]
@[simp] theorem rotationEvent_sel (d : Rotation) : (rotationEvent d s).sel = s.sel := by
  cases d <;> by_cases h : s.sel = adjCh <;> simp [rotationEvent, h]
@[simp] theorem rotationEvent_orb (d : Rotation) : (rotationEvent d s).orb = s.orb := by
  cases d <;> by_cases h : s.sel = adjCh <;> simp [rotationEvent, h]
@[simp] theorem rotationEvent_outLatch (d : Rotation) : (rotationEvent d s).outLatch = s.outLatch := by
  cases d <;> by_cases h : s.sel = adjCh <;> simp [rotationEvent, h]
@[simp] theorem rotationEvent_ctx (d : Rotation) : (rotationEvent d s).ctx = s.ctx := by
  cases d <;> by_cases h : s.sel = adjCh <;> simp [rotationEvent, h]
@[simp] theorem rotationEvent_qst (d : Rotation) : (rotationEvent d s).qst = s.qst := by
  cases d <;> by_cases h : s.sel = adjCh <;> simp [rotationEvent, h]
@[simp] theorem rotationEvent_scanActive (d : Rotation) : (rotationEvent d s).scanActive = s.scanActive := by
  cases d <;> by_cases h : s.sel = adjCh <;> simp [rotationEvent, h]
@[simp] theorem rotationEvent_scanI (d : Rotation) : (rotationEvent d s).scanI = s.scanI := by
  cases d <;> by_cases h : s.sel = adjCh <;> simp [rotationEvent, h]
@[simp] theorem rotationEvent_hit (d : Rotation) : (rotationEvent d s).hit = s.hit := by
  cases d <;> by_cases h : s.sel = adjCh <;> simp [rotationEvent, h]
@[simp] theorem rotationEvent_scanSent (d : Rotation) : (rotationEvent d s).scanSent = s.scanSent := by
  cases d <;> by_cases h : s.sel = adjCh <;> simp [rotationEvent, h]
@[simp] theorem rotationEvent_result (d : Rotation) : (rotationEvent d s).result = s.result := by
  cases d <;> by_cases h : s.sel = adjCh <;> simp [rotationEvent, h]
@[simp] theorem rotationEvent_cmds (d : Rotation) : (rotationEvent d s).cmds = s.cmds := by
  cases d <;> by_cases h : s.sel = adjCh <;> simp [rotationEvent, h]
@[simp] theorem rotationEvent_btnIn (d : Rotation) : (rotationEvent d s).btnIn = s.btnIn := by
  cases d <;> by_cases h : s.sel = adjCh <;> simp [rotationEvent, h]
@[simp] theorem rotationEvent_encIn (d : Rotation) : (rotationEvent d s).encIn = s.encIn := by
  cases d <;> by_cases h : s.sel = adjCh <;> simp [rotationEvent, h]
@[simp] theorem rotationEvent_encHeld (d : Rotation) : (rotationEvent d s).encHeld = s.encHeld := by
  cases d <;> by_cases h : s.sel = adjCh <;> simp [rotationEvent, h]
@[simp] theorem rotationEvent_btnTaken (d : Rotation) : (rotationEvent d s).btnTaken = s.btnTaken := by
  cases d <;> by_cases h : s.sel = adjCh <;> simp [rotationEvent, h]
@[simp] theorem rotationEvent_encTaken (d : Rotation) : (rotationEvent d s).encTaken = s.encTaken := by
  cases d <;> by_cases h : s.sel = adjCh <;> simp [rotationEvent, h]
@[simp] theorem rotationEvent_idleTurns (d : Rotation) : (rotationEvent d s).idleTurns = s.idleTurns := by
  cases d <;> by_cases h : s.sel = adjCh <;> simp [rotationEvent, h]

/-! EV.BTN -/

@[simp] theorem buttonEvent_duty (b : ButtonId) : (buttonEvent b s).duty = s.duty := by
  fin_cases b <;> simp [buttonEvent]
@[simp] theorem buttonEvent_ctx (b : ButtonId) : (buttonEvent b s).ctx = s.ctx := by
  fin_cases b <;> simp [buttonEvent]
@[simp] theorem buttonEvent_qst (b : ButtonId) : (buttonEvent b s).qst = s.qst := by
  fin_cases b <;> simp [buttonEvent]
@[simp] theorem buttonEvent_scanActive (b : ButtonId) : (buttonEvent b s).scanActive = s.scanActive := by
  fin_cases b <;> simp [buttonEvent]
@[simp] theorem buttonEvent_scanI (b : ButtonId) : (buttonEvent b s).scanI = s.scanI := by
  fin_cases b <;> simp [buttonEvent]
@[simp] theorem buttonEvent_hit (b : ButtonId) : (buttonEvent b s).hit = s.hit := by
  fin_cases b <;> simp [buttonEvent]
@[simp] theorem buttonEvent_scanSent (b : ButtonId) : (buttonEvent b s).scanSent = s.scanSent := by
  fin_cases b <;> simp [buttonEvent]
@[simp] theorem buttonEvent_result (b : ButtonId) : (buttonEvent b s).result = s.result := by
  fin_cases b <;> simp [buttonEvent]
@[simp] theorem buttonEvent_cmds (b : ButtonId) : (buttonEvent b s).cmds = s.cmds := by
  fin_cases b <;> simp [buttonEvent]
@[simp] theorem buttonEvent_btnIn (b : ButtonId) : (buttonEvent b s).btnIn = s.btnIn := by
  fin_cases b <;> simp [buttonEvent]
@[simp] theorem buttonEvent_encIn (b : ButtonId) : (buttonEvent b s).encIn = s.encIn := by
  fin_cases b <;> simp [buttonEvent]
@[simp] theorem buttonEvent_encHeld (b : ButtonId) : (buttonEvent b s).encHeld = s.encHeld := by
  fin_cases b <;> simp [buttonEvent]
@[simp] theorem buttonEvent_btnTaken (b : ButtonId) : (buttonEvent b s).btnTaken = s.btnTaken := by
  fin_cases b <;> simp [buttonEvent]
@[simp] theorem buttonEvent_encTaken (b : ButtonId) : (buttonEvent b s).encTaken = s.encTaken := by
  fin_cases b <;> simp [buttonEvent]
@[simp] theorem buttonEvent_idleTurns (b : ButtonId) : (buttonEvent b s).idleTurns = s.idleTurns := by
  fin_cases b <;> simp [buttonEvent]

end Sys2Proof.Machine
end

