-- ==== Sys2Proof/Laws/Step.lean ====
section
/-!
SUPPORT. What `exec` and `step` can do, said once: for each operation when it answers a next state and which, and the
inversion of `step`.
-/

namespace Sys2Proof.Machine

variable {s t : State}

theorem execOrbRd_next : exec .orbRd s = .next t ↔ s.ctx = .idle ∧ t = handBack (.byte s.orb) s := by
  simp [exec, execOrbRd, whenIdle_next, eq_comm (a := t)]

theorem execOrbSet_next {n : BitVec 2} {v : Bool} :
    exec (.orbSet n v) s = .next t ↔
      ∃ c, channelOf n = some c ∧ s.ctx = .idle ∧ s.scanActive = false ∧ t = orbSet c v s := by
  simp [exec, execOrbSet, withChannel_next, whenIdle_next, whenNoScan_next, eq_comm (a := t)]

theorem execScan_next : exec .scan s = .next t ↔ s.ctx = .idle ∧ s.scanActive = false ∧ t = scanStart s := by
  simp [exec, execScan, whenIdle_next, whenNoScan_next, eq_comm (a := t)]

theorem execQdec_next : exec .qdec s = .next t ↔ s.ctx = .idle ∧ s.qst = .idle ∧ t = decoderLine s := by
  simp [exec, execQdec, whenIdle_next, whenDecoderIdle_next, eq_comm (a := t)]

theorem execSelnext_next : exec .selnext s = .next t ↔ s.ctx = .idle ∧ t = selNext s := by
  simp [exec, execSelnext, whenIdle_next, eq_comm (a := t)]

theorem execToggle_next {n : BitVec 2} :
    exec (.toggle n) s = .next t ↔
      ∃ c, channelOf n = some c ∧ s.ctx = .idle ∧ s.scanActive = false ∧ t = togglePower c s := by
  simp [exec, execToggle, withChannel_next, whenIdle_next, whenNoScan_next, eq_comm (a := t)]

theorem execAdj_next {inc : Bool} : exec (.adj inc) s = .next t ↔ s.ctx = .idle ∧ t = adjust inc s := by
  simp [exec, execAdj, whenIdle_next, eq_comm (a := t)]

theorem execEvBtn_next {b : ButtonId} :
    exec (.evBtn b) s = .next t ↔
      s.ctx = .idle ∧ (b = 3 → s.scanActive = false) ∧ t = buttonEvent b s := by
  by_cases hb : b = 3 <;> simp [exec, execEvBtn, whenIdle_next, whenNoScan_next, hb, eq_comm (a := t)]

theorem execEvRot_next {n : BitVec 2} :
    exec (.evRot n) s = .next t ↔ ∃ d, rotationOf n = some d ∧ s.ctx = .idle ∧ t = rotationEvent d s := by
  simp [exec, execEvRot, withRotation_next, whenIdle_next, eq_comm (a := t)]

theorem execIrqBtn_next :
    exec .irqBtn s = .next t ↔
      s.ctx = .idle ∧ s.scanActive = false ∧ t = scanStart (enterHandler .hBtn s) := by
  simp [exec, execIrqBtn, whenIdle_next, whenNoScan_next, eq_comm (a := t)]

theorem execIrqEnc_next :
    exec .irqEnc s = .next t ↔
      s.ctx = .idle ∧ s.qst = .idle ∧ t = decoderLine (enterHandler .hEnc s) := by
  simp [exec, execIrqEnc, whenIdle_next, whenDecoderIdle_next, eq_comm (a := t)]

theorem execNop_next : exec .nop s = .next t ↔ s.ctx = .idle ∧ t = s := by
  simp [exec, execNop, whenIdle_next, eq_comm (a := t)]

theorem execInit_next : exec .init s = .next t ↔ s.ctx = .boot ∧ t = startup Config.ind s := by
  simp [exec, execInit, whenBoot_next, eq_comm (a := t)]

/-- At power-up and at an operation boundary nothing is in progress. -/
theorem activity_boundary_iff : activity s = .boundary ↔ Startable s := by
  cases hc : s.ctx <;> by_cases hq : s.qst = .idle <;> cases ha : s.scanActive <;>
    simp [activity, Startable, Ready, hc, hq, ha]

/-- The inversion of `step`: it starts the operation fetched at a boundary, or runs one line of the one in progress. -/
theorem step_next :
    step s = .next t ↔
      (activity s = .boundary ∧ ∃ i, (fetch s).1 = .ok i ∧ exec i (fetch s).2 = .next t) ∨
      (activity s ≠ .boundary ∧ t = runLine (activity s) s) := by
  cases h : activity s with
  | boundary => cases hf : (fetch s).1 <;> simp [step, h, start, hf]
  | scanning => simp [step, h, eq_comm (a := t)]
  | decoding => simp [step, h, eq_comm (a := t)]
  | dispatching => simp [step, h, eq_comm (a := t)]

/-- At a boundary the step is the start of the operation fetched. -/
theorem step_boundary (h : Startable s) : step s = start (fetch s) := by
  simp [step, activity_boundary_iff.mpr h]

/-- With an operation in progress the step is its next line. -/
theorem step_in_progress (h : ¬ Startable s) : step s = .next (runLine (activity s) s) := by
  have := mt activity_boundary_iff.mp h
  unfold step
  split <;> simp_all

/-! `fetch` changes the queue and the idle counter only -/

theorem fetch_eq (s : State) :
    ∃ cmds n, (fetch s).2 = { s with cmds := cmds, idleTurns := n } ∧ cmds ⊆ s.cmds := by
  unfold fetch
  split
  · exact ⟨_, _, rfl, by simp_all⟩
  · split
    · exact ⟨s.cmds, s.idleTurns, rfl, by simp⟩
    · exact ⟨s.cmds, _, rfl, by simp⟩

/-! Runs -/

/-- A run of the safety vocabulary is a run of the host's machine. -/
theorem stepsTo_iff_run {n : Nat} : stepsTo n s t ↔ Host.Core.run Sys2Proof.core n s = .next t := by
  induction n generalizing s with
  | zero => exact ⟨fun h => congrArg _ h, fun h => Host.Outcome.next.inj h⟩
  | succ n ih =>
    have hs : Sys2Proof.core.step s = step s := rfl
    cases h : step s <;> rw [h] at hs <;> simp [stepsTo, Host.Core.run, h, hs, ih]

theorem stepsTo_add {m n : Nat} {u : State} : stepsTo m s t → stepsTo n t u → stepsTo (m + n) s u := by
  induction m generalizing s with
  | zero => rintro rfl h; simpa using h
  | succ m ih =>
    rintro ⟨v, hv, h⟩ h'
    rw [Nat.add_right_comm]
    exact ⟨v, hv, ih h h'⟩

/-- A run of the deterministic machine has one end. -/
theorem stepsTo_unique {n : Nat} {u : State} (h : stepsTo n s t) (h' : stepsTo n s u) : t = u := by
  induction n generalizing s with
  | zero => exact h.symm.trans h'
  | succ n ih =>
    obtain ⟨v, hv, h⟩ := h
    obtain ⟨w, hw, h'⟩ := h'
    obtain rfl : v = w := by simpa [hv] using hw
    exact ih h h'

end Sys2Proof.Machine
end

