-- ==== Sys2Proof/Laws/Decoder.lean ====
section
/-!
SUPPORT. What one sample of QDEC does, and the fields the dispatcher's effects leave alone (spec/42_quadrature_decoder.md
R157, spec/44_control_dispatcher.md R212).
-/

namespace Sys2Proof.Machine

/-- A decode runs in the encoder handler, or at IDLE started by a test bench. -/
abbrev DecodeContext (s : State) : Prop := s.ctx = .hEnc ∨ s.ctx = .idle ∧ s.qst ≠ .idle

theorem step_decoding {s : State} (h : DecodeContext s) : step s = .next (decoderLine s) := by
  have : activity s = .decoding := by rcases h with h | h <;> simp [activity, h]
  simp [step, this, runLine]

/-- A sample that does not end the wait changes nothing but the samples taken (R160). -/
theorem decoderLine_stay {s : State} (hq : s.qst ≠ .idle) (h : waitEnds s.qst (encAt s 0) = false) :
    decoderLine s = dropEnc s := by
  cases hs : s.qst <;> simp_all [decoderLine, decoderNext, decoderReturn, dropEnc]

/-- An entry sample (1,0) selects the clockwise path (R158). -/
theorem decoderLine_entry_cw {s : State} (hq : s.qst = .idle) (h : encAt s 0 = (true, false)) :
    decoderLine s = { dropEnc s with qst := .cwWaitCombo } := by
  simp [decoderLine, hq, h, decoderNext, decoderReturn]

/-- An entry sample (0,1) selects the counter-clockwise path (R158). -/
theorem decoderLine_entry_ccw {s : State} (hq : s.qst = .idle) (h : encAt s 0 = (false, true)) :
    decoderLine s = { dropEnc s with qst := .ccwWaitCombo } := by
  simp [decoderLine, hq, h, decoderNext, decoderReturn]

/-- An entry sample (0,0) or (1,1) returns None at once (R158). -/
theorem decoderLine_entry_none {s : State} (hq : s.qst = .idle)
    (h : encAt s 0 = (false, false) ∨ encAt s 0 = (true, true)) :
    decoderLine s = decoderReturn (some .none) (dropEnc s) := by
  rcases h with h | h <;> simp [decoderLine, hq, h, decoderNext, dropEnc]

/-- The sample that ends the first clockwise wait. -/
theorem decoderLine_cw_first {s : State} (hq : s.qst = .cwWaitCombo) (h : waitEnds s.qst (encAt s 0) = true) :
    decoderLine s = { dropEnc s with qst := .waitLineBRelease } := by
  simp_all [decoderLine, decoderNext, decoderReturn]

/-- The sample that ends the first counter-clockwise wait. -/
theorem decoderLine_ccw_first {s : State} (hq : s.qst = .ccwWaitCombo) (h : waitEnds s.qst (encAt s 0) = true) :
    decoderLine s = { dropEnc s with qst := .waitLineARelease } := by
  simp_all [decoderLine, decoderNext, decoderReturn]

/-- The sample that ends the second clockwise wait: the call returns Clockwise (R161). -/
theorem decoderLine_cw_second {s : State} (hq : s.qst = .waitLineBRelease) (h : waitEnds s.qst (encAt s 0) = true) :
    decoderLine s = decoderReturn (some .clockwise) { dropEnc s with qst := .idle } := by
  simp_all [decoderLine, decoderNext]

/-- The sample that ends the second counter-clockwise wait: the call returns CounterClockwise (R161). -/
theorem decoderLine_ccw_second {s : State} (hq : s.qst = .waitLineARelease) (h : waitEnds s.qst (encAt s 0) = true) :
    decoderLine s = decoderReturn (some .counterClockwise) { dropEnc s with qst := .idle } := by
  simp_all [decoderLine, decoderNext]

/-- EV.ROT changes DUTY, PWM_CMP and the trace only (R212). -/
theorem rotationEvent_frame (d : Rotation) (s : State) :
    ∃ (duty cmp : Duty) (es : List Event),
      rotationEvent d s = { s with duty := duty, pwmCmp := cmp, trace := s.trace ++ es } := by
  have key : ∀ inc, s.sel = adjCh → ∃ (duty cmp : Duty) (es : List Event),
      render (adjust inc s) = { s with duty := duty, pwmCmp := cmp, trace := s.trace ++ es } := by
    intro inc h
    exact ⟨adjustDuty inc s.duty, if s.en[adjCh] then adjustDuty inc s.duty else s.pwmCmp,
      (if s.en[adjCh] then [.pwmw (adjustDuty inc s.duty)] else []) ++
        [.render s.sel s.en[s.sel] (adjustDuty inc s.duty)],
      by rw [adjust_selected inc s h]; simp [render, emit]⟩
  have same : ∃ (duty cmp : Duty) (es : List Event),
      s = { s with duty := duty, pwmCmp := cmp, trace := s.trace ++ es } := ⟨s.duty, s.pwmCmp, [], by simp⟩
  cases d <;> simp only [rotationEvent]
  · exact same
  · split
    · exact key true ‹_›
    · exact same
  · split
    · exact key false ‹_›
    · exact same

end Sys2Proof.Machine
end

