-- ==== Sys2Proof/Laws/PerInstr.lean ====
section
/-!
SUPPORT. The family TableRow of facts about the instruction as syntax: its command byte, under the mask of its row of
spec/opcode_table.json, is the row's match. One lemma per constructor of `Instr`.
-/

namespace Sys2Proof.Laws.TableRow

/-- The mask and the match of an instruction's row of spec/opcode_table.json. -/
def row : Instr → Byte × Byte
  | .orbRd => (0xFF#8, 0x00#8)
  | .orbSet _ _ => (0xF8#8, 0x10#8)
  | .scan => (0xFF#8, 0x20#8)
  | .qdec => (0xFF#8, 0x30#8)
  | .selnext => (0xFF#8, 0x40#8)
  | .toggle _ => (0xFC#8, 0x50#8)
  | .adj _ => (0xFB#8, 0x60#8)
  | .evBtn _ => (0xFC#8, 0x70#8)
  | .evRot _ => (0xFC#8, 0x80#8)
  | .irqBtn => (0xFF#8, 0x90#8)
  | .irqEnc => (0xFF#8, 0xA0#8)
  | .nop => (0xFF#8, 0xE0#8)
  | .init => (0xFF#8, 0xF0#8)

/-- The command byte of a well-formed instruction lies in its row of the opcode table. -/
def Statement (i : Instr) : Prop := i.wellFormed = true → encode i &&& (row i).1 = (row i).2

theorem orbRd : Statement .orbRd := fun _ => by decide
theorem orbSet (c : BitVec 2) (v : Bool) : Statement (.orbSet c v) := by unfold Statement; revert c v; decide
theorem scan : Statement .scan := fun _ => by decide
theorem qdec : Statement .qdec := fun _ => by decide
theorem selnext : Statement .selnext := fun _ => by decide
theorem toggle (c : BitVec 2) : Statement (.toggle c) := by unfold Statement; revert c; decide
theorem adj (inc : Bool) : Statement (.adj inc) := by unfold Statement; revert inc; decide
theorem evBtn (b : ButtonId) : Statement (.evBtn b) := by unfold Statement; revert b; decide
theorem evRot (d : BitVec 2) : Statement (.evRot d) := by unfold Statement; revert d; decide
theorem irqBtn : Statement .irqBtn := fun _ => by decide
theorem irqEnc : Statement .irqEnc := fun _ => by decide
theorem nop : Statement .nop := fun _ => by decide
theorem init : Statement .init := fun _ => by decide

end Sys2Proof.Laws.TableRow
end

