-- ==== Sys2Proof/Laws/Scan.lean ====
section
/-!
SUPPORT. What the lines of SCAN do, each as one state: a turn of the loop is two steps (S1.i, S2.i), the end is two steps
(S3, S4) (spec/41_button_scanner.md R138).
-/

namespace Sys2Proof.Machine

/-- A scan runs in a button handler, or at IDLE started by a test bench with no decode in progress. -/
abbrev ScanContext (s : State) : Prop := s.ctx = .hBtn ∨ s.ctx = .idle ∧ s.qst = .idle

theorem step_scanning {s : State} (h : ScanContext s) (ha : s.scanActive = true) : step s = .next (scanLine s) := by
  have : activity s = .scanning := by rcases h with h | h <;> simp [activity, h, ha]
  simp [step, this, runLine]

theorem scanLine_send {s : State} (i : ButtonId) (hi : s.scanI = i.castSucc) (hs : s.scanSent = false) :
    scanLine s = scanSend i s := by
  simp [scanLine, hi, hs]

theorem scanLine_sample {s : State} (i : ButtonId) (hi : s.scanI = i.castSucc) (hs : s.scanSent = true) :
    scanLine s = scanSample i s := by
  simp [scanLine, hi, hs]

theorem scanLine_restore {s : State} (hi : s.scanI = 4) (hs : s.scanSent = false) : scanLine s = scanRestore s := by
  simp [scanLine, hi, hs]

theorem scanLine_end {s : State} (hi : s.scanI = 4) (hs : s.scanSent = true) : scanLine s = scanEnd s := by
  simp [scanLine, hi, hs]

/-- Lines S1.i and S2.i. -/
theorem stepsTo_scan_turn {s : State} (i : ButtonId) (h : ScanContext s) (ha : s.scanActive = true)
    (hi : s.scanI = i.castSucc) (hs : s.scanSent = false) :
    stepsTo 2 s
      { s with
        outLatch := candidate i s.orb
        trace := s.trace ++ [.tx (candidate i s.orb)]
        hit := recordHit (btnAt s 0) i s.hit
        scanI := i.succ
        scanSent := false
        btnIn := s.btnIn.tail
        btnTaken := s.btnTaken + 1 } := by
  refine ⟨scanSend i s, by rw [step_scanning h ha, scanLine_send i hi hs],
    scanSample i (scanSend i s), ?_, rfl⟩
  rw [step_scanning (s := scanSend i s) h ha, scanLine_sample (s := scanSend i s) i hi rfl]

/-- Lines S3 and S4. -/
theorem stepsTo_scan_close {s : State} (h : ScanContext s) (ha : s.scanActive = true) (hi : s.scanI = 4)
    (hs : s.scanSent = false) :
    stepsTo 2 s
      { s with
        outLatch := s.orb
        trace := s.trace ++ [.tx s.orb]
        scanActive := false
        scanI := 0
        scanSent := false
        result := if s.ctx = .idle then .button s.hit else s.result } := by
  refine ⟨scanRestore s, by rw [step_scanning h ha, scanLine_restore hi hs], scanEnd (scanRestore s), ?_, rfl⟩
  rw [step_scanning (s := scanRestore s) h ha, scanLine_end (s := scanRestore s) hi rfl]

end Sys2Proof.Machine
end

