-- ==== Sys2Proof/Laws/StepCases.lean ====
section
/-!
SUPPORT. What one step can do, said once: startup, the start of an operation at a boundary, a line of a scan, a sample of
a decode, or the end of the button handler; and what one sample of a decode can do.
-/

namespace Sys2Proof.Machine

variable {s t : State}

/-- Every outcome of a decoder sample: the call goes on in a wait, or returns a RotationEvent with QST = Idle (R157). -/
theorem decoderLine_cases (s : State) :
    (∃ q, q ≠ .idle ∧ decoderLine s = { dropEnc s with qst := q }) ∨
    (∃ e, decoderLine s = decoderReturn (some e) { dropEnc s with qst := .idle }) := by
  unfold decoderLine decoderNext
  split <;> split
  · exact .inl ⟨_, by simp, rfl⟩
  · split
    · exact .inl ⟨_, by simp, rfl⟩
    · exact .inr ⟨_, rfl⟩
  all_goals first
    | exact .inr ⟨_, rfl⟩
    | exact .inl ⟨_, by simp_all, rfl⟩

/-- A command other than INIT does not start in BOOT, and INIT starts nowhere else (R236). -/
theorem exec_next_ctx {i : Instr} (h : exec i s = .next t) : s.ctx = if i = .init then .boot else .idle := by
  cases i
  case orbRd => exact (execOrbRd_next.mp h).1
  case orbSet => obtain ⟨_, _, h, _⟩ := execOrbSet_next.mp h; exact h
  case scan => exact (execScan_next.mp h).1
  case qdec => exact (execQdec_next.mp h).1
  case selnext => exact (execSelnext_next.mp h).1
  case toggle => obtain ⟨_, _, h, _⟩ := execToggle_next.mp h; exact h
  case adj => exact (execAdj_next.mp h).1
  case evBtn => exact (execEvBtn_next.mp h).1
  case evRot => obtain ⟨_, _, h, _⟩ := execEvRot_next.mp h; exact h
  case irqBtn => exact (execIrqBtn_next.mp h).1
  case irqEnc => exact (execIrqEnc_next.mp h).1
  case nop => exact (execNop_next.mp h).1
  case init => exact (execInit_next.mp h).1

/-- What a step can do. -/
theorem step_cases (h : step s = .next t) :
    (s.ctx = .boot ∧ exec .init (fetch s).2 = .next t) ∨
    (Ready s ∧ ∃ i, (fetch s).1 = .ok i ∧ i ≠ .init ∧ exec i (fetch s).2 = .next t) ∨
    (ScanContext s ∧ s.scanActive = true ∧ t = scanLine s) ∨
    (DecodeContext s ∧ t = decoderLine s) ∨
    (s.ctx = .hBtn ∧ s.scanActive = false ∧ t = buttonHandlerEnd s) := by
  rcases step_next.mp h with ⟨hb, i, hf, he⟩ | ⟨hb, rfl⟩
  · have hc : (fetch s).2.ctx = s.ctx := by obtain ⟨_, _, e, _⟩ := fetch_eq s; rw [e]
    have hi := hc.symm.trans (exec_next_ctx he)
    rcases activity_boundary_iff.mp hb with hb | hb
    · have : i = .init := by by_contra h; simp [h, hb] at hi
      exact .inl ⟨hb, this ▸ he⟩
    · have : i ≠ .init := by rintro rfl; simp [hb.1] at hi
      exact .inr (.inl ⟨hb, i, hf, this, he⟩)
  · right; right
    cases hc : s.ctx <;> simp only [activity, hc] at hb ⊢
    · simp at hb
    · by_cases hq : s.qst = .idle
      · cases ha : s.scanActive
        · simp [hq, ha] at hb
        · left; exact ⟨.inr ⟨hc, hq⟩, rfl, by simp [hq, runLine]⟩
      · right; left; exact ⟨.inr ⟨hc, hq⟩, by simp [hq, runLine]⟩
    · cases ha : s.scanActive
      · right; right; simp [runLine]
      · left; exact ⟨.inl hc, rfl, by simp [runLine]⟩
    · right; left; exact ⟨.inl hc, rfl⟩

/-- The instruction fetched is an ORB.SET only where its byte is lined up: the environment of R238 starts handlers. -/
theorem fetch_orbSet {n : BitVec 2} {v : Bool} (h : (fetch s).1 = .ok (.orbSet n v)) :
    ∃ b ∈ s.cmds, decode b = .ok (.orbSet n v) := by
  unfold fetch at h
  split at h
  · exact ⟨_, by simp_all, h⟩
  · exfalso
    split at h
    · simp at h
    · rcases hh : Config.envEvent s.idleTurns with _ | _ | _ <;> simp [handlerOf, hh] at h

end Sys2Proof.Machine
end

