-- ==== Sys2Proof/Tests/Slice0.lean ====
section
/-!
SUPPORT. The model's own tests. Expected values are those of spec/95_test_vectors.md (the vector is named in each
docstring) or bytes written out from the table of R103; and, for each obligation with hypotheses, a witness: a concrete
state and operands that meet them.
-/

namespace Sys2Proof.Tests

open Sys2Proof Sys2Proof.Machine

/-- What a test looks at in the next state; none where there is no next state. -/
def after {α : Type} (a : Answer) (f : State → α) : Option α :=
  match a with
  | .next t => some (f t)
  | .fault _ => none
  | .refused _ => none

/-- The refusal an answer is, if it is one. -/
def refusal (a : Answer) : Option Refusal :=
  match a with
  | .next _ => none
  | .fault _ => none
  | .refused r => some r

/-- A state at an operation boundary in the vectors' notation (SEL; EN[0],EN[1],EN[2]; DUTY; ORB; PWM_CMP), with
OUT_LATCH = ORB. -/
def st (sel : Channel) (e0 e1 e2 : Bool) (duty : Duty) (orb : Byte) (cmp : Duty) : State :=
  { State.reset with
    en := #v[e0, e1, e2], duty := duty, sel := sel, orb := orb, outLatch := orb, pwmCmp := cmp, ctx := .idle }

/-- What `st` sets, and the trace. -/
structure View where
  sel : Channel
  en : List Bool
  duty : Duty
  orb : Byte
  outLatch : Byte
  pwmCmp : Duty
  trace : List Event
  deriving DecidableEq, Repr

/-- What a test looks at. -/
def view (s : State) : View := ⟨s.sel, s.en.toList, s.duty, s.orb, s.outLatch, s.pwmCmp, s.trace⟩

/-- A boundary state with one command lined up. -/
def queued (b : Byte) : State := { st 0 false false false 42 0x00#8 0 with cmds := [b] }

/-- The decoder in a wait, its samples lined up. -/
def waiting (c : Ctx) (q : QState) (enc : List (Bool × Bool)) : State :=
  { st 0 true false false 9 0x04#8 9 with ctx := c, qst := q, encIn := enc }

/-- A boundary state with encoder samples lined up. -/
def sampled (enc : List (Bool × Bool)) : State := { st 0 true false false 9 0x04#8 9 with encIn := enc }

/-- A scan started by a test bench, at S1.i or (`sent`) S2.i. -/
def scanningAt (i : Fin 5) (sent : Bool) (btn : List Bool) (hit : Option ButtonId) : State :=
  { st 0 false false false 0 0x05#8 0 with
    scanActive := true, scanI := i, scanSent := sent, btnIn := btn, hit := hit }

/-! WellFormed -/

theorem test_orbSet_channel_3_is_ill_formed : (Instr.orbSet 3#2 true).wellFormed = false := by decide
theorem test_toggle_channel_3_is_ill_formed : (Instr.toggle 3#2).wellFormed = false := by decide
theorem test_evRot_code_2_is_ill_formed : (Instr.evRot 2#2).wellFormed = false := by decide
theorem test_every_other_operand_is_well_formed :
    (∀ c ∈ [0#2, 1#2, 2#2], (Instr.toggle c).wellFormed = true ∧ ∀ v, (Instr.orbSet c v).wellFormed = true) ∧
    ∀ d ∈ [0#2, 1#2, 3#2], (Instr.evRot d).wellFormed = true := by decide

/-! Decoding: OP, bit 3, V, N written out from R101 and R103 -/

theorem test_decode_orbRd : decode (0b0000#4 ++ 0b0#1 ++ 0b0#1 ++ 0b00#2) = .ok .orbRd := rfl
theorem test_decode_orbSet : decode (0b0001#4 ++ 0b0#1 ++ 0b1#1 ++ 0b10#2) = .ok (.orbSet 2#2 true) := rfl
theorem test_decode_orbSet_clear : decode (0b0001#4 ++ 0b0#1 ++ 0b0#1 ++ 0b01#2) = .ok (.orbSet 1#2 false) := rfl
theorem test_decode_scan : decode (0b0010#4 ++ 0b0#1 ++ 0b0#1 ++ 0b00#2) = .ok .scan := rfl
theorem test_decode_qdec : decode (0b0011#4 ++ 0b0#1 ++ 0b0#1 ++ 0b00#2) = .ok .qdec := rfl
theorem test_decode_selnext : decode (0b0100#4 ++ 0b0#1 ++ 0b0#1 ++ 0b00#2) = .ok .selnext := rfl
theorem test_decode_toggle : decode (0b0101#4 ++ 0b0#1 ++ 0b0#1 ++ 0b01#2) = .ok (.toggle 1#2) := rfl
theorem test_decode_adj_up : decode (0b0110#4 ++ 0b0#1 ++ 0b1#1 ++ 0b00#2) = .ok (.adj true) := rfl
theorem test_decode_adj_down : decode (0b0110#4 ++ 0b0#1 ++ 0b0#1 ++ 0b00#2) = .ok (.adj false) := rfl
theorem test_decode_evBtn : decode (0b0111#4 ++ 0b0#1 ++ 0b0#1 ++ 0b11#2) = .ok (.evBtn 3) := rfl
theorem test_decode_evRot_cw : decode (0b1000#4 ++ 0b0#1 ++ 0b0#1 ++ 0b01#2) = .ok (.evRot 1#2) := rfl
theorem test_decode_evRot_ccw : decode (0b1000#4 ++ 0b0#1 ++ 0b0#1 ++ 0b11#2) = .ok (.evRot 3#2) := rfl
theorem test_decode_irqBtn : decode (0b1001#4 ++ 0b0#1 ++ 0b0#1 ++ 0b00#2) = .ok .irqBtn := rfl
theorem test_decode_irqEnc : decode (0b1010#4 ++ 0b0#1 ++ 0b0#1 ++ 0b00#2) = .ok .irqEnc := rfl
theorem test_decode_nop : decode (0b1110#4 ++ 0b0#1 ++ 0b0#1 ++ 0b00#2) = .ok .nop := rfl
theorem test_decode_init : decode (0b1111#4 ++ 0b0#1 ++ 0b0#1 ++ 0b00#2) = .ok .init := rfl
theorem test_table_word : decodeTableWord 8 0x16 = some (.orbSet 2#2 true) := rfl
theorem test_table_word_too_long : decodeTableWord 8 0x116 = none := rfl

/-- V73, each byte at the step. -/
theorem test_reserved_bytes_refused :
    ∀ b ∈ [0xB0#8, 0xC0#8, 0xD0#8, 0x08#8, 0x44#8, 0x21#8, 0x74#8],
      refusal (step (queued b)) = some .reservedCommand := by decide

/-- V9, V52. -/
theorem test_bad_channel_refused :
    ∀ b ∈ [0x13#8, 0x17#8, 0x53#8], refusal (step (queued b)) = some .badChannel := by decide

/-- V63. -/
theorem test_bad_rotation_refused : refusal (step (queued 0x82#8)) = some .badRotation := by decide

/-! Output Register Model -/

/-- V8. -/
theorem test_orbRd : after (exec .orbRd (st 0 true false true 0 0x05#8 0)) (fun t => (t.result, t.trace)) =
    some (.byte 0x05#8, []) := by decide

/-- V6: IND carried. -/
theorem test_orbSet_keeps_indicator :
    after (exec (.orbSet 0#2 true) (st 0 false false false 0 0xF8#8 0)) view =
      some ⟨0, [false, false, false], 0, 0xFC#8, 0xFC#8, 0, [.tx 0xFC#8]⟩ := by decide

/-- V4, V5: channel 1 is bit 1; no change is still one transmit. -/
theorem test_orbSet_clears :
    after (exec (.orbSet 1#2 false) (st 0 false false false 0 0x07#8 0)) (fun t => (t.orb, t.trace)) =
      some (0x05#8, [.tx 0x05#8]) ∧
    after (exec (.orbSet 1#2 false) (st 0 false false false 0 0x05#8 0)) (fun t => (t.orb, t.trace)) =
      some (0x05#8, [.tx 0x05#8]) := by decide

/-! Button Scanner -/

/-- V11's first byte (line S1.0). -/
theorem test_scan_sends_candidate :
    after (step (scanningAt 0 false [] none)) (fun t => (t.orb, t.outLatch, t.trace, t.scanSent)) =
      some (0x05#8, 0x15#8, [.tx 0x15#8], true) := by decide

/-- V15's third sample: an asserted sample overwrites the earlier hit. -/
theorem test_scan_highest_index_wins :
    after (step (scanningAt 2 true [true, false] (some 0))) (fun t => (t.hit, t.scanI, t.btnIn)) =
      some (some 2, 3, [false]) := by decide

/-! Quadrature Decoder -/

/-- V21, V22, V23, V28: the first sample. -/
theorem test_qdec_entry :
    after (exec .qdec (sampled [(false, false)])) (fun t => (t.qst, t.result)) = some (.idle, .rotation .none) ∧
    after (exec .qdec (sampled [(true, true)])) (fun t => (t.qst, t.result)) = some (.idle, .rotation .none) ∧
    after (exec .qdec (sampled [(true, false)])) (fun t => (t.qst, t.result)) = some (.cwWaitCombo, .nothing) ∧
    after (exec .qdec (sampled [(false, true)])) (fun t => (t.qst, t.result)) = some (.ccwWaitCombo, .nothing) := by
  decide

/-- V27, V30: the last sample. -/
theorem test_qdec_second_wait_ends :
    after (step (waiting .idle .waitLineBRelease [(true, false)])) (fun t => (t.qst, t.result)) =
      some (.idle, .rotation .clockwise) ∧
    after (step (waiting .idle .waitLineARelease [(false, true)])) (fun t => (t.qst, t.result)) =
      some (.idle, .rotation .counterClockwise) := by decide

/-! Regulator Bank -/

/-- V36, V37. -/
theorem test_selnext :
    after (exec .selnext (st 0 false false false 0 0x00#8 0)) (fun t => (t.sel, t.trace)) = some (1, []) ∧
    after (exec .selnext (st 2 false false false 0 0x00#8 0)) (fun t => (t.sel, t.trace)) = some (0, []) := by decide

/-- V40 and V43: the adjustable channel, off and, whatever SEL is, on. -/
theorem test_toggle_adjustable :
    after (exec (.toggle 0#2) (st 0 true false false 42 0x04#8 42)) view =
      some ⟨0, [false, false, false], 42, 0x00#8, 0x00#8, 0, [.tx 0x00#8, .pwmw 0]⟩ ∧
    after (exec (.toggle 0#2) (st 2 false false false 7 0x00#8 0)) view =
      some ⟨2, [true, false, false], 7, 0x04#8, 0x04#8, 7, [.tx 0x04#8, .pwmw 7]⟩ := by decide

/-- V42: a fixed channel. -/
theorem test_toggle_fixed :
    after (exec (.toggle 2#2) (st 0 true true false 42 0x06#8 42)) view =
      some ⟨0, [true, true, true], 42, 0x07#8, 0x07#8, 42, [.tx 0x07#8]⟩ := by decide

/-- V44, V46, V47, V50: one up, clamped and still written at both ends, and no effect on a fixed channel. -/
theorem test_adj_enabled :
    after (exec (.adj true) (st 0 true false false 41 0x04#8 41)) view =
      some ⟨0, [true, false, false], 42, 0x04#8, 0x04#8, 42, [.pwmw 42]⟩ ∧
    after (exec (.adj true) (st 0 true false false 100 0x04#8 100)) view =
      some ⟨0, [true, false, false], 100, 0x04#8, 0x04#8, 100, [.pwmw 100]⟩ ∧
    after (exec (.adj false) (st 0 true false false 0 0x04#8 0)) view =
      some ⟨0, [true, false, false], 0, 0x04#8, 0x04#8, 0, [.pwmw 0]⟩ ∧
    after (exec (.adj true) (st 1 true false false 42 0x04#8 42)) view =
      some ⟨1, [true, false, false], 42, 0x04#8, 0x04#8, 42, []⟩ := by decide

/-- V48: disabled, the compare register is not touched. -/
theorem test_adj_disabled :
    after (exec (.adj true) (st 0 false false false 99 0x00#8 0)) view =
      some ⟨0, [false, false, false], 100, 0x00#8, 0x00#8, 0, []⟩ := by decide

/-! Control Dispatcher -/

/-- V53, V54, V55. -/
theorem test_evBtn_without_power :
    after (exec (.evBtn 0) (st 1 false true false 3 0x02#8 0)) view =
      some ⟨1, [false, true, false], 3, 0x02#8, 0x02#8, 0, [.ack]⟩ ∧
    after (exec (.evBtn 1) (st 1 false true false 3 0x02#8 0)) view =
      some ⟨2, [false, true, false], 3, 0x02#8, 0x02#8, 0, [.render 2 false 3]⟩ ∧
    after (exec (.evBtn 2) (st 1 false true false 3 0x02#8 0)) view =
      some ⟨1, [false, true, false], 3, 0x02#8, 0x02#8, 0, []⟩ := by decide

/-- V56, V57. -/
theorem test_evBtn_power :
    after (exec (.evBtn 3) (st 1 false false false 9 0x00#8 0)) view =
      some ⟨1, [false, true, false], 9, 0x02#8, 0x02#8, 0, [.tx 0x02#8, .render 1 true 9]⟩ ∧
    after (exec (.evBtn 3) (st 0 false false false 9 0x00#8 0)) view =
      some ⟨0, [true, false, false], 9, 0x04#8, 0x04#8, 9, [.tx 0x04#8, .pwmw 9, .render 0 true 9]⟩ := by decide

/-- V58, V59, V62. -/
theorem test_evRot_adjusts :
    after (exec (.evRot 1#2) (st 0 false false false 4 0x00#8 0)) view =
      some ⟨0, [false, false, false], 5, 0x00#8, 0x00#8, 0, [.render 0 false 5]⟩ ∧
    after (exec (.evRot 3#2) (st 0 true false false 4 0x04#8 4)) view =
      some ⟨0, [true, false, false], 3, 0x04#8, 0x04#8, 3, [.pwmw 3, .render 0 true 3]⟩ ∧
    after (exec (.evRot 1#2) (st 0 true false false 100 0x04#8 100)) view =
      some ⟨0, [true, false, false], 100, 0x04#8, 0x04#8, 100, [.pwmw 100, .render 0 true 100]⟩ := by decide

/-- V60, V61. -/
theorem test_evRot_ignored :
    after (exec (.evRot 1#2) (st 2 false false true 4 0x01#8 0)) view =
      some ⟨2, [false, false, true], 4, 0x01#8, 0x01#8, 0, []⟩ ∧
    after (exec (.evRot 0#2) (st 0 true false false 4 0x04#8 4)) view =
      some ⟨0, [true, false, false], 4, 0x04#8, 0x04#8, 4, []⟩ := by decide

/-! Handlers, idle, startup -/

/-- V68's first and last step: entry, and the dispatch of the hit with the return. -/
theorem test_irqBtn :
    after (exec .irqBtn (st 0 false false false 0 0x00#8 0)) (fun t => (t.ctx, t.scanActive, t.trace)) =
      some (.hBtn, true, []) ∧
    after (step { st 0 false false false 0 0x00#8 0 with ctx := .hBtn, hit := some 1 })
      (fun t => (t.ctx, t.sel, t.trace)) = some (.idle, 1, [.render 1 false 0]) := by decide

/-- V69's last step: None is dispatched as nothing. -/
theorem test_irqBtn_none :
    after (step { st 0 false false false 0 0x00#8 0 with ctx := .hBtn }) (fun t => (t.ctx, view t)) =
      some (.idle, view (st 0 false false false 0 0x00#8 0)) := by decide

/-- V70's first and last sample. -/
theorem test_irqEnc :
    after (exec .irqEnc (sampled [(true, false), (true, true)])) (fun t => (t.ctx, t.qst, t.encIn)) =
      some (.hEnc, .cwWaitCombo, [(true, true)]) ∧
    after (step (waiting .hEnc .waitLineBRelease [(false, false)])) (fun t => (t.ctx, t.qst, view t)) =
      some (.idle, .idle, ⟨0, [true, false, false], 10, 0x04#8, 0x04#8, 10, [.pwmw 10, .render 0 true 10]⟩) := by decide

/-- V71. -/
theorem test_irqEnc_none :
    after (exec .irqEnc (sampled [(true, true)])) (fun t => (t.ctx, t.qst, view t)) =
      some (.idle, .idle, view (st 0 true false false 9 0x04#8 9)) := by decide

/-- V72. -/
theorem test_nop : after (exec .nop (st 1 true true false 9 0x06#8 9)) id = some (st 1 true true false 9 0x06#8 9) := rfl

/-- V64, V65: for each of the two chips, what INIT leaves. -/
theorem test_init :
    ((startup 0b00000#5 State.reset).ctx, view (startup 0b00000#5 State.reset)) =
      (.idle, ⟨0, [false, false, false], 0, 0x00#8, 0x00#8, 0, [.tx 0x00#8, .pwmw 0, .render 0 false 0]⟩) ∧
    ((startup 0b11111#5 State.reset).ctx, view (startup 0b11111#5 State.reset)) =
      (.idle, ⟨0, [false, false, false], 0, 0xF8#8, 0xF8#8, 0, [.tx 0xF8#8, .pwmw 0, .render 0 false 0]⟩) := by decide

/-- V66, V67. -/
theorem test_context_refusals :
    refusal (exec .init (st 0 false false false 0 0x00#8 0)) = some .notIdle ∧
    refusal (step { State.reset with cmds := [0xE0#8] }) = some .notBooted := by decide

/-! Witnesses -/

theorem witness_DecodeOfEncode :
    (Instr.orbSet 2#2 true).wellFormed = true ∧ (Instr.evRot 3#2).wellFormed = true ∧ Instr.init.wellFormed = true := by
  decide

theorem witness_AcceptedByteIsItsEncoding : decode 0x16#8 = .ok (.orbSet 2#2 true) := rfl

theorem witness_Startable (b : Byte) :
    Startable (queued b) ∧ (queued b).cmds = b :: [] ∧ Startable { State.reset with cmds := [b] } :=
  ⟨.inr ⟨rfl, rfl, rfl⟩, rfl, .inl rfl⟩

/-- Each clause of ReservedBytesRefused. -/
theorem witness_ReservedBytesRefused :
    opField 0xB0#8 = 0xB#4 ∧ opField 0xC7#8 = 0xC#4 ∧ opField 0xD0#8 = 0xD#4 ∧ (0x08#8).getLsbD 3 = true ∧
    (opField 0x04#8 = 0x0#4 ∧ (0x04#8).getLsbD 2 = true) ∧ (opField 0x21#8 = 0x2#4 ∧ nField 0x21#8 ≠ 0#2) ∧
    (opField 0x33#8 = 0x3#4 ∧ nField 0x33#8 ≠ 0#2) ∧ (opField 0x44#8 = 0x4#4 ∧ (0x44#8).getLsbD 2 = true) ∧
    (opField 0x91#8 = 0x9#4 ∧ nField 0x91#8 ≠ 0#2) ∧ (opField 0xA4#8 = 0xA#4 ∧ (0xA4#8).getLsbD 2 = true) ∧
    (opField 0xE3#8 = 0xE#4 ∧ nField 0xE3#8 ≠ 0#2) ∧ (opField 0xF4#8 = 0xF#4 ∧ (0xF4#8).getLsbD 2 = true) ∧
    (opField 0x57#8 = 0x5#4 ∧ (0x57#8).getLsbD 2 = true) ∧ (opField 0x74#8 = 0x7#4 ∧ (0x74#8).getLsbD 2 = true) ∧
    (opField 0x86#8 = 0x8#4 ∧ (0x86#8).getLsbD 2 = true) ∧ (opField 0x67#8 = 0x6#4 ∧ nField 0x67#8 ≠ 0#2) := by
  decide

theorem witness_StepRunsCommand :
    Startable (queued 0x52#8) ∧ (queued 0x52#8).cmds = 0x52#8 :: [] ∧ decode 0x52#8 = .ok (.toggle 2#2) :=
  ⟨.inr ⟨rfl, rfl, rfl⟩, rfl, rfl⟩

theorem witness_LoadedWordRuns :
    decodeTableWord 8 0xF0 = some .init ∧ decodeTableWord 8 0x00 = some .orbRd := ⟨rfl, rfl⟩

theorem witness_EmptyQueueStep :
    (State.reset.cmds = [] ∧ State.reset.ctx = .boot) ∧
    ((sampled []).cmds = [] ∧ Ready (sampled [])) := by decide

theorem witness_ContextGuards :
    ((Instr.adj true).wellFormed = true ∧ Instr.adj true ≠ .init ∧ State.reset.ctx = .boot) ∧
    (waiting .hEnc .cwWaitCombo []).ctx = .hEnc ∧ ({ State.reset with ctx := .hBtn } : State).ctx = .hBtn ∧
    (sampled []).ctx ≠ .boot := by decide

theorem witness_ScanGate :
    (scanningAt 0 false [] none).ctx = .idle ∧ (scanningAt 0 false [] none).scanActive = true := by decide

theorem witness_NothingStartsMidOperation :
    ¬ Startable (scanningAt 0 false [] none) ∧ ¬ Startable (waiting .hEnc .cwWaitCombo []) ∧
    ¬ Startable { State.reset with ctx := .hBtn } := by decide

/-- Each clause: from BOOT, IDLE, H_BTN and H_ENC. -/
theorem witness_ContextTransitions :
    (∃ t, step State.reset = .next t) ∧ (∃ t, step (queued 0x90#8) = .next t) ∧
    (∃ t, step { State.reset with ctx := .hBtn } = .next t) ∧
    (∃ t, step (waiting .hEnc .cwWaitCombo [(true, false)]) = .next t) :=
  ⟨⟨_, rfl⟩, ⟨_, rfl⟩, ⟨_, rfl⟩, ⟨_, rfl⟩⟩

/-- The hypotheses CTX = IDLE and SCAN_ACTIVE = 0 of the statements about one operation; channels at both ends. -/
theorem witness_operations :
    ∀ c : Channel, (st c true false true 100 0x05#8 100).ctx = .idle ∧
      (st c true false true 100 0x05#8 100).scanActive = false ∧ (st c true false true 100 0x05#8 100).qst = .idle ∧
      (st c true false true 100 0x05#8 100).outLatch = (st c true false true 100 0x05#8 100).orb := by decide

theorem witness_Ready : Ready (st 2 false false false 0 0x00#8 0) := by decide

theorem witness_ScanHoldsEnableLines :
    Ready (st 1 false true true 3 0x03#8 0) ∧
    (st 1 false true true 3 0x03#8 0).outLatch = (st 1 false true true 3 0x03#8 0).orb ∧
    ∃ t u, exec .scan (st 1 false true true 3 0x03#8 0) = .next t ∧ stepsTo 1 t u :=
  ⟨by decide, rfl, _, _, rfl, _, rfl, rfl⟩

/-- The panel of the witness below: button 1 is held. -/
def holdsOne (i : ButtonId) : Bool := i == 1

/-- V12's start. -/
def panelStart : State := { st 0 false false false 0 0x05#8 0 with btnIn := [false, true, false, false] }

theorem panel_run : ∀ k < 10,
    after (Host.Core.run Sys2Proof.core k (scanStart panelStart)) (fun v => decide (EPanel holdsOne v)) = some true := by
  decide

theorem witness_ScanReportsHeldButton :
    Ready panelStart ∧ exec .scan panelStart = .next (scanStart panelStart) ∧
    (∀ k v, k < 10 → stepsTo k (scanStart panelStart) v → EPanel holdsOne v) ∧
    ∃ u, stepsTo 10 (scanStart panelStart) u := by
  refine ⟨by decide, rfl, fun k v hk hv => ?_, _, stepsTo_iff_run.mpr rfl⟩
  have h := panel_run k hk
  rw [stepsTo_iff_run.mp hv] at h
  exact of_decide_eq_true (Option.some.inj h)

theorem witness_QdecEntry :
    ∀ ab : Bool × Bool, (sampled [ab]).ctx = .idle ∧ (sampled [ab]).qst = .idle ∧ encAt (sampled [ab]) 0 = ab :=
  fun _ => ⟨rfl, rfl, rfl⟩

/-- Each clause of WaitExitConditions, in both callers: a sample on which the wait goes on and one that ends it. -/
theorem witness_WaitExitConditions :
    ∀ c ∈ [Ctx.idle, Ctx.hEnc], ∀ q ∈ [QState.cwWaitCombo, .waitLineBRelease, .ccwWaitCombo, .waitLineARelease],
      ∀ a b, ((waiting c q [(a, b)]).ctx = .idle ∨ (waiting c q [(a, b)]).ctx = .hEnc) ∧
        (waiting c q [(a, b)]).qst = q ∧ encAt (waiting c q [(a, b)]) 0 = (a, b) := by
  intro c hc q _ a b
  refine ⟨?_, rfl, rfl⟩
  simpa [waiting] using hc

/-- Both clauses of QdecReturnsDirection and of EncoderHandlerDispatches, k = 1 and m = 1. -/
theorem witness_QdecReturnsDirection :
    (let s := sampled [(true, false), (true, false), (true, true), (false, true), (false, false)]
     s.ctx = .idle ∧ s.qst = .idle ∧ encAt s 0 = (true, false) ∧ (∀ j, 1 ≤ j → j ≤ 1 → encAt s j = (true, false)) ∧
      encAt s 2 ≠ (true, false) ∧ (∀ j, 3 ≤ j → j ≤ 3 → (encAt s j).2 = true) ∧ (encAt s 4).2 = false) ∧
    (let s := sampled [(false, true), (false, true), (true, true), (true, false), (false, false)]
     s.ctx = .idle ∧ s.qst = .idle ∧ encAt s 0 = (false, true) ∧ (∀ j, 1 ≤ j → j ≤ 1 → encAt s j = (false, true)) ∧
      encAt s 2 ≠ (false, true) ∧ (∀ j, 3 ≤ j → j ≤ 3 → (encAt s j).1 = true) ∧ (encAt s 4).1 = false) := by
  refine ⟨⟨rfl, rfl, rfl, fun j h h' => ?_, by decide, fun j h h' => ?_, rfl⟩,
    ⟨rfl, rfl, rfl, fun j h h' => ?_, by decide, fun j h h' => ?_, rfl⟩⟩ <;>
    (obtain rfl := Nat.le_antisymm h' h; rfl)

/-- P5: the encoder lines stuck at (1,1) after the entry sample. -/
theorem witness_StuckWaitNeverEnds :
    let s := { waiting .hEnc .waitLineBRelease [] with encHeld := some (true, true) }
    (s.ctx = .idle ∨ s.ctx = .hEnc) ∧ s.qst ≠ .idle ∧ ∀ k, waitEnds s.qst (encAt s k) = false :=
  ⟨.inr rfl, by decide, fun k => by simp [encAt, waiting, st, waitEnds]⟩

theorem witness_DecoderReturnsUnderPulse :
    let s := { waiting .hEnc .cwWaitCombo [] with encHeld := some (false, false) }
    s.ctx = .hEnc ∧ s.qst ≠ .idle ∧ EPulse s :=
  ⟨rfl, by decide, fun q n => ⟨n, Nat.le_refl n, by cases q <;> simp [encAt, waiting, st, waitEnds]⟩⟩

theorem witness_SelnextAdvances :
    ∃ t u v, exec .selnext (st 2 false false false 0 0x00#8 0) = .next t ∧ exec .selnext t = .next u ∧
      exec .selnext u = .next v := ⟨_, _, _, rfl, rfl, rfl⟩

/-- Two TOGGLEs in a row, of the adjustable channel and of the last fixed one. -/
theorem witness_ToggleParity :
    ∀ c ∈ [(0 : Channel), 2], ∃ run : Nat → State,
      ∀ k < 2, exec (.toggle (BitVec.ofNat 2 c)) (run k) = .next (run (k + 1)) := by
  intro c hc
  refine ⟨fun k => Nat.rec (st 1 false false false 42 0x00#8 0) (fun _ s => togglePower c s) k, fun k hk => ?_⟩
  rcases List.mem_pair.mp hc with rfl | rfl <;> interval_cases k <;> rfl

/-- AdjustSaturates at both ends of DUTY, enabled and disabled; AdjustFixedIgnored. -/
theorem witness_adjust :
    (∀ d ∈ [(0 : Duty), 100], ∀ e, (st 0 e false false d 0x00#8 0).ctx = .idle ∧
      (st 0 e false false d 0x00#8 0).sel = 0 ∧ (st 0 e false false d 0x00#8 0).en[(0 : Channel)] = e) ∧
    ∀ c ∈ [(1 : Channel), 2], (st c true false false 42 0x04#8 42).ctx = .idle ∧
      (st c true false false 42 0x04#8 42).sel ≠ 0 := by decide

theorem witness_DutyMovesByOne :
    ∃ t, step (queued 0x64#8) = .next t ∧ (queued 0x64#8).ctx ≠ .boot ∧ t.duty ≠ (queued 0x64#8).duty :=
  ⟨_, rfl, by decide, by decide⟩

/-- Both clauses of OutputsChangeByEvents, and TraceOnlyGrows: TOGGLE 0 with DUTY = 42. -/
theorem witness_OutputsChangeByEvents :
    ∃ t, step (queued 0x50#8) = .next t ∧ t.pwmCmp ≠ (queued 0x50#8).pwmCmp ∧
      t.outLatch ≠ (queued 0x50#8).outLatch := ⟨_, rfl, by decide, by decide⟩

/-- Both hypotheses on HIT in ButtonHandlerCompletes: a hit and None. -/
theorem witness_ButtonHandlerCompletes :
    Ready panelStart ∧ highest (fun i => btnAt panelStart i.val) = some 1 ∧
    Ready { panelStart with btnIn := [false, false, false, false] } ∧
    highest (fun i => btnAt { panelStart with btnIn := [false, false, false, false] } i.val) = none := by decide

theorem witness_boot : State.reset.ctx = .boot := rfl

/-- A state after startup with the invariant, at an operation boundary, DUTY and a command lined up. -/
def started : State :=
  { State.reset with ctx := .idle, outLatch := startupByte Config.ind, duty := 7, cmds := [0x40#8] }

theorem started_inv : Inv started :=
  .inr ⟨indicatorBits_startupByte Config.ind, rfl, rfl, by decide⟩

theorem witness_InvariantKept : Inv started ∧ ∃ t, step started = .next t := ⟨started_inv, _, rfl⟩

/-- The invariant also holds in the middle of a scan. -/
theorem witness_InvariantKept_in_scan :
    let s := { started with scanActive := true, scanI := 4 }
    Inv { s with outLatch := candidate 3 s.orb } ∧ ∃ t, step { s with outLatch := candidate 3 s.orb } = .next t :=
  ⟨.inr ⟨indicatorBits_startupByte Config.ind, rfl, rfl, by decide⟩, _, rfl⟩

theorem witness_BoundaryInvariants : Inv started ∧ ∃ t, stepsTo 1 started t ∧ Ready t :=
  ⟨started_inv, _, ⟨_, rfl, rfl⟩, by decide⟩

theorem witness_MirrorKept :
    let s := { st 0 true false true 42 0x05#8 42 with cmds := [0x50#8] }
    MirrorInv s ∧ s.ctx ≠ .boot ∧ ∃ t, step s = .next t := by
  refine ⟨⟨fun b hb c v h => ?_, .inr (by decide)⟩, by decide, _, rfl⟩
  obtain rfl : b = 0x50#8 := by simpa using hb
  have : decode 0x50#8 = .ok (.toggle 0#2) := rfl
  simp [this] at h

end Sys2Proof.Tests
end

section
/-!
SUPPORT. The event trace is append-only (spec/00_scope.md R18): each effect leaves a trace of which the one before it is a
prefix (`<+:`), and so does every step.
-/

namespace Sys2Proof.Machine

variable (s : State) {t : State}

/-- What a line of SCAN can be (R138): S1.i, S2.i, S3 or S4. -/
theorem scanLine_cases :
    (∃ i : ButtonId, s.scanI = i.castSucc ∧ s.scanSent = false ∧ scanLine s = scanSend i s) ∨
    (∃ i : ButtonId, s.scanI = i.castSucc ∧ s.scanSent = true ∧ scanLine s = scanSample i s) ∨
    (s.scanI = 4 ∧ s.scanSent = false ∧ scanLine s = scanRestore s) ∨
    (s.scanI = 4 ∧ s.scanSent = true ∧ scanLine s = scanEnd s) := by
  rcases Fin.eq_castSucc_or_eq_last s.scanI with ⟨i, hi⟩ | hi <;> cases hs : s.scanSent
  · exact .inl ⟨i, hi, rfl, scanLine_send i hi hs⟩
  · exact .inr (.inl ⟨i, hi, rfl, scanLine_sample i hi hs⟩)
  · exact .inr (.inr (.inl ⟨hi, rfl, scanLine_restore hi hs⟩))
  · exact .inr (.inr (.inr ⟨hi, rfl, scanLine_end hi hs⟩))

/-! The effects -/

theorem trace_prefix_togglePower (c : Channel) : s.trace <+: (togglePower c s).trace := by
  rw [togglePower_eq]
  exact List.prefix_append _ _

theorem trace_prefix_adjust (inc : Bool) : s.trace <+: (adjust inc s).trace := by
  by_cases h : s.sel = adjCh
  · rw [adjust_selected inc s h]
    exact List.prefix_append _ _
  · rw [adjust_fixed inc s h]

theorem trace_prefix_startup (ind : BitVec 5) : s.trace <+: (startup ind s).trace := by
  rw [startup_eq]
  exact List.prefix_append _ _

theorem trace_prefix_render : s.trace <+: (render s).trace := List.prefix_append _ _

theorem trace_prefix_buttonEvent (b : ButtonId) : s.trace <+: (buttonEvent b s).trace :=
  match b with
  | 0 => List.prefix_append _ _
  | 1 => trace_prefix_render (selNext s)
  | 2 => List.prefix_rfl
  | 3 => (trace_prefix_togglePower s s.sel).trans (trace_prefix_render _)

theorem trace_prefix_rotationEvent (d : Rotation) : s.trace <+: (rotationEvent d s).trace := by
  obtain ⟨_, _, es, h⟩ := rotationEvent_frame d s
  rw [h]
  exact List.prefix_append _ _

/-! The lines of an operation in progress -/

theorem trace_prefix_decoderReturn (d : Option Rotation) : s.trace <+: (decoderReturn d s).trace := by
  unfold decoderReturn
  split
  · exact List.prefix_rfl
  · split
    · exact trace_prefix_rotationEvent s _
    · exact List.prefix_rfl

theorem trace_prefix_decoderLine : s.trace <+: (decoderLine s).trace :=
  trace_prefix_decoderReturn { dropEnc s with qst := (decoderNext s.qst (encAt s 0)).1 } _

theorem trace_prefix_scanLine : s.trace <+: (scanLine s).trace := by
  obtain ⟨i, -, -, h⟩ | ⟨i, -, -, h⟩ | ⟨-, -, h⟩ | ⟨-, -, h⟩ := scanLine_cases s <;> rw [h]
  · exact List.prefix_append _ _
  · exact List.prefix_rfl
  · exact List.prefix_append _ _
  · exact List.prefix_rfl

theorem trace_prefix_buttonHandlerEnd : s.trace <+: (buttonHandlerEnd s).trace := by
  unfold buttonHandlerEnd
  split
  · exact trace_prefix_buttonEvent s _
  · exact List.prefix_rfl

/-! The start of an operation, and the step -/

variable {s}

theorem trace_prefix_exec {i : Instr} (h : exec i s = .next t) : s.trace <+: t.trace := by
  cases i
  case orbRd => obtain ⟨-, rfl⟩ := execOrbRd_next.mp h; exact List.prefix_rfl
  case orbSet => obtain ⟨_, -, -, -, rfl⟩ := execOrbSet_next.mp h; exact List.prefix_append _ _
  case scan => obtain ⟨-, -, rfl⟩ := execScan_next.mp h; exact List.prefix_rfl
  case qdec => obtain ⟨-, -, rfl⟩ := execQdec_next.mp h; exact trace_prefix_decoderLine s
  case selnext => obtain ⟨-, rfl⟩ := execSelnext_next.mp h; exact List.prefix_rfl
  case toggle => obtain ⟨c, -, -, -, rfl⟩ := execToggle_next.mp h; exact trace_prefix_togglePower s c
  case adj inc => obtain ⟨-, rfl⟩ := execAdj_next.mp h; exact trace_prefix_adjust s inc
  case evBtn b => obtain ⟨-, -, rfl⟩ := execEvBtn_next.mp h; exact trace_prefix_buttonEvent s b
  case evRot => obtain ⟨d, -, -, rfl⟩ := execEvRot_next.mp h; exact trace_prefix_rotationEvent s d
  case irqBtn => obtain ⟨-, -, rfl⟩ := execIrqBtn_next.mp h; exact List.prefix_rfl
  case irqEnc =>
    obtain ⟨-, -, rfl⟩ := execIrqEnc_next.mp h
    exact trace_prefix_decoderLine (enterHandler .hEnc s)
  case nop => obtain ⟨-, rfl⟩ := execNop_next.mp h; exact List.prefix_rfl
  case init => obtain ⟨-, rfl⟩ := execInit_next.mp h; exact trace_prefix_startup s _

theorem fetch_trace (s : State) : (fetch s).2.trace = s.trace := by
  obtain ⟨_, _, h, -⟩ := fetch_eq s
  rw [h]

theorem trace_prefix_step (h : step s = .next t) : s.trace <+: t.trace := by
  rcases step_cases h with ⟨-, he⟩ | ⟨-, i, -, -, he⟩ | ⟨-, -, rfl⟩ | ⟨-, rfl⟩ | ⟨-, -, rfl⟩
  · exact fetch_trace s ▸ trace_prefix_exec he
  · exact fetch_trace s ▸ trace_prefix_exec he
  · exact trace_prefix_scanLine s
  · exact trace_prefix_decoderLine s
  · exact trace_prefix_buttonHandlerEnd s

/-- Settles O32: the trace before a step is a prefix of the trace after it. -/
theorem traceOnlyGrows : Obligations.TraceOnlyGrows := by
  intro s t h
  obtain ⟨es, he⟩ := trace_prefix_step h
  exact ⟨es, he.symm⟩

end Sys2Proof.Machine
end

section
/-!
SUPPORT. What one step does to the two halves of the state (spec/10_state.md R20 to R33), said once: to the data and
output registers (`Writes`, `Effect`) and to the sequencer registers (`Move`). `step_kind` names startup, ORB.SET and the
lines of SCAN as they are and says everything else in these words.
-/

namespace Sys2Proof.Machine

/-- `t` has the data and output registers of `s`, a trace that at most goes on, and a queue that at most got shorter. -/
structure SameData (s t : State) : Prop where
  en : t.en = s.en
  duty : t.duty = s.duty
  sel : t.sel = s.sel
  orb : t.orb = s.orb
  outLatch : t.outLatch = s.outLatch
  pwmCmp : t.pwmCmp = s.pwmCmp
  trace : s.trace <+: t.trace
  cmds : t.cmds ⊆ s.cmds

/-- What the dispatched operations write in the data and output registers: nothing, SELNEXT, TOGGLE, or ADJ with the
adjustable channel selected (R182, R186, R190). -/
inductive Writes : State → State → Prop
  | nothing (s : State) : Writes s s
  | select (s : State) : Writes s (selNext s)
  | toggle (c : Channel) (s : State) : Writes s (togglePower c s)
  | adjust (inc : Bool) {s : State} (hsel : s.sel = adjCh) : Writes s (adjust inc s)

/-- One of these writes, among changes of the sequencer registers, the inputs and the model's own fields. -/
def Effect (s t : State) : Prop := ∃ u v, SameData s u ∧ Writes u v ∧ SameData v t

/-- The scan's own registers are left alone. -/
structure SameScan (s t : State) : Prop where
  scanActive : t.scanActive = s.scanActive
  scanI : t.scanI = s.scanI
  scanSent : t.scanSent = s.scanSent

/-- What a step other than startup and a line of SCAN does to the sequencer registers: it ends at IDLE, starts a scan,
or leaves a decode in a wait. -/
inductive Move (s t : State) : Prop
  | rests (hctx : t.ctx = .idle) (hscan : SameScan s t)
  | scans (hs : s.ctx = .idle) (hctx : t.ctx = .hBtn ∨ t.ctx = .idle) (hqst : t.qst = .idle)
      (hactive : t.scanActive = true) (hi : t.scanI = 0) (hsent : t.scanSent = false)
  | waits (hs : s.ctx = .idle ∨ s.ctx = .hEnc) (hctx : t.ctx = .hEnc ∨ t.ctx = .idle) (hqst : t.qst ≠ .idle)
      (hscan : SameScan s t)

variable {s t u : State}

theorem SameData.refl (s : State) : SameData s s := ⟨rfl, rfl, rfl, rfl, rfl, rfl, List.prefix_rfl, fun _ h => h⟩

theorem SameData.trans (h : SameData s t) (h' : SameData t u) : SameData s u where
  en := h'.en.trans h.en
  duty := h'.duty.trans h.duty
  sel := h'.sel.trans h.sel
  orb := h'.orb.trans h.orb
  outLatch := h'.outLatch.trans h.outLatch
  pwmCmp := h'.pwmCmp.trans h.pwmCmp
  trace := h.trace.trans h'.trace
  cmds := List.Subset.trans h'.cmds h.cmds

theorem sameData_emit (e : Event) (s : State) : SameData s (emit e s) :=
  { SameData.refl s with trace := List.prefix_append _ _ }

theorem sameData_fetch (s : State) : SameData s (fetch s).2 := by
  obtain ⟨_, _, h, hsub⟩ := fetch_eq s
  rw [h]
  exact { SameData.refl s with cmds := hsub }

theorem fetch_ctx (s : State) : (fetch s).2.ctx = s.ctx := by
  obtain ⟨_, _, h, -⟩ := fetch_eq s
  rw [h]

theorem fetch_qst (s : State) : (fetch s).2.qst = s.qst := by
  obtain ⟨_, _, h, -⟩ := fetch_eq s
  rw [h]

theorem sameScan_fetch (s : State) : SameScan s (fetch s).2 := by
  obtain ⟨_, _, h, -⟩ := fetch_eq s
  rw [h]
  exact ⟨rfl, rfl, rfl⟩

theorem SameScan.trans (h : SameScan s t) (h' : SameScan t u) : SameScan s u :=
  ⟨h'.scanActive.trans h.scanActive, h'.scanI.trans h.scanI, h'.scanSent.trans h.scanSent⟩

/-! The effect on the data and output registers -/

theorem Writes.effect (h : Writes s t) : Effect s t := ⟨s, t, .refl s, h, .refl t⟩

theorem SameData.effect (h : SameData s t) : Effect s t := ⟨s, s, .refl s, .nothing s, h⟩

theorem Effect.after (h : Effect u t) (hs : SameData s u) : Effect s t := by
  obtain ⟨v, w, hv, hw, ht⟩ := h
  exact ⟨v, w, hs.trans hv, hw, ht⟩

theorem Effect.before (h : Effect s u) (ht : SameData u t) : Effect s t := by
  obtain ⟨v, w, hv, hw, hu⟩ := h
  exact ⟨v, w, hv, hw, hu.trans ht⟩

theorem effect_adjust (inc : Bool) (s : State) : Effect s (adjust inc s) := by
  by_cases h : s.sel = adjCh
  · exact (Writes.adjust inc h).effect
  · rw [adjust_fixed inc s h]
    exact (SameData.refl s).effect

theorem effect_buttonEvent (b : ButtonId) (s : State) : Effect s (buttonEvent b s) :=
  match b with
  | 0 => (sameData_emit _ s).effect
  | 1 => (Writes.select s).effect.before (sameData_emit _ _)
  | 2 => (SameData.refl s).effect
  | 3 => (Writes.toggle s.sel s).effect.before (sameData_emit _ _)

theorem effect_rotationEvent (d : Rotation) (s : State) : Effect s (rotationEvent d s) := by
  have turn : ∀ inc, Effect s (if s.sel = adjCh then render (adjust inc s) else s) := by
    intro inc
    split
    · exact (effect_adjust inc s).before (sameData_emit _ _)
    · exact (SameData.refl s).effect
  cases d with
  | none => exact (SameData.refl s).effect
  | clockwise => exact turn true
  | counterClockwise => exact turn false

theorem effect_decoderReturn (e : Rotation) (s : State) : Effect s (decoderReturn (some e) s) := by
  unfold decoderReturn
  dsimp only
  split
  · exact (effect_rotationEvent e s).before { SameData.refl _ with }
  · exact SameData.effect { SameData.refl s with }

theorem effect_decoderLine (s : State) : Effect s (decoderLine s) := by
  obtain ⟨q, -, h⟩ | ⟨e, h⟩ := decoderLine_cases s <;> rw [h]
  · exact SameData.effect { SameData.refl s with }
  · exact (effect_decoderReturn e _).after { SameData.refl s with }

theorem effect_buttonHandlerEnd (s : State) : Effect s (buttonHandlerEnd s) := by
  unfold buttonHandlerEnd
  split
  · exact (effect_buttonEvent _ s).before { SameData.refl _ with }
  · exact SameData.effect { SameData.refl s with }

/-! The move of the sequencer -/

/-- A call that returns is back at IDLE, whichever caller it had (R104, R241). -/
theorem decoderReturn_ctx (e : Rotation) (hs : s.ctx = .idle ∨ s.ctx = .hEnc) :
    (decoderReturn (some e) s).ctx = .idle := by
  rcases hs with hs | hs <;> simp [decoderReturn, hs]

theorem sameScan_decoderReturn (d : Option Rotation) (s : State) : SameScan s (decoderReturn d s) := by
  unfold decoderReturn
  split
  · exact ⟨rfl, rfl, rfl⟩
  · split <;> constructor <;> simp

/-- A sample taken by either caller of QDEC, `s` being the state before the handler's entry, if there was one. -/
theorem move_decoderLine (hs : s.ctx = .idle ∨ s.ctx = .hEnc) (hu : u.ctx = .hEnc ∨ u.ctx = .idle)
    (hscan : SameScan s u) : Move s (decoderLine u) := by
  obtain ⟨q, hq, h⟩ | ⟨e, h⟩ := decoderLine_cases u <;> rw [h]
  · exact .waits hs hu hq (hscan.trans ⟨rfl, rfl, rfl⟩)
  · exact .rests (decoderReturn_ctx e hu.symm) <|
      hscan.trans <| .trans (t := { dropEnc u with qst := .idle }) ⟨rfl, rfl, rfl⟩ (sameScan_decoderReturn _ _)

theorem move_buttonHandlerEnd (s : State) : Move s (buttonHandlerEnd s) := by
  unfold buttonHandlerEnd
  split
  · exact .rests rfl (by constructor <;> simp)
  · exact .rests rfl ⟨rfl, rfl, rfl⟩

/-! The start of an operation, and the step -/

/-- What the start of an operation does at an operation boundary. -/
theorem exec_kind {i : Instr} (hs : Ready s) (hi : i ≠ .init) (h : exec i s = .next t) :
    Move s t ∧ ((∃ n v c, i = .orbSet n v ∧ t = orbSet c v s) ∨ Effect s t) := by
  obtain ⟨hctx, hqst, -⟩ := hs
  cases i
  case init => exact absurd rfl hi
  case orbSet n v =>
    obtain ⟨c, -, -, -, rfl⟩ := execOrbSet_next.mp h
    exact ⟨.rests hctx ⟨rfl, rfl, rfl⟩, .inl ⟨n, v, c, rfl, rfl⟩⟩
  case orbRd =>
    obtain ⟨-, rfl⟩ := execOrbRd_next.mp h
    exact ⟨.rests hctx ⟨rfl, rfl, rfl⟩, .inr <| SameData.effect { SameData.refl s with }⟩
  case scan =>
    obtain ⟨-, -, rfl⟩ := execScan_next.mp h
    exact ⟨.scans hctx (.inr hctx) hqst rfl rfl rfl, .inr <| SameData.effect { SameData.refl s with }⟩
  case qdec =>
    obtain ⟨-, -, rfl⟩ := execQdec_next.mp h
    exact ⟨move_decoderLine (.inl hctx) (.inr hctx) ⟨rfl, rfl, rfl⟩, .inr <| effect_decoderLine s⟩
  case selnext =>
    obtain ⟨-, rfl⟩ := execSelnext_next.mp h
    exact ⟨.rests hctx ⟨rfl, rfl, rfl⟩, .inr (Writes.select s).effect⟩
  case toggle =>
    obtain ⟨c, -, -, -, rfl⟩ := execToggle_next.mp h
    exact ⟨.rests (by simp [hctx]) (by constructor <;> simp), .inr (Writes.toggle c s).effect⟩
  case adj inc =>
    obtain ⟨-, rfl⟩ := execAdj_next.mp h
    exact ⟨.rests (by simp [hctx]) (by constructor <;> simp), .inr <| effect_adjust inc s⟩
  case evBtn b =>
    obtain ⟨-, -, rfl⟩ := execEvBtn_next.mp h
    exact ⟨.rests (by simp [hctx]) (by constructor <;> simp), .inr <| effect_buttonEvent b s⟩
  case evRot =>
    obtain ⟨d, -, -, rfl⟩ := execEvRot_next.mp h
    exact ⟨.rests (by simp [hctx]) (by constructor <;> simp), .inr <| effect_rotationEvent d s⟩
  case irqBtn =>
    obtain ⟨-, -, rfl⟩ := execIrqBtn_next.mp h
    exact ⟨.scans hctx (.inl rfl) hqst rfl rfl rfl, .inr <| SameData.effect { SameData.refl s with }⟩
  case irqEnc =>
    obtain ⟨-, -, rfl⟩ := execIrqEnc_next.mp h
    exact ⟨move_decoderLine (.inl hctx) (.inl rfl) ⟨rfl, rfl, rfl⟩,
      .inr <| (effect_decoderLine _).after { SameData.refl s with }⟩
  case nop =>
    obtain ⟨-, rfl⟩ := execNop_next.mp h
    exact ⟨.rests hctx ⟨rfl, rfl, rfl⟩, .inr (SameData.refl t).effect⟩

/-- The move of an operation started at a boundary is a move from the state before its fetch. -/
theorem Move.of_fetch (h : Move (fetch s).2 t) : Move s t := by
  cases h with
  | rests hctx hscan => exact .rests hctx ((sameScan_fetch s).trans hscan)
  | scans hs hctx hqst hactive hi hsent => exact .scans (fetch_ctx s ▸ hs) hctx hqst hactive hi hsent
  | waits hs hctx hqst hscan => exact .waits (fetch_ctx s ▸ hs) hctx hqst ((sameScan_fetch s).trans hscan)

/-- Every kind of step: startup, a line of a scan, or a move of the sequencer with ORB.SET or one of the writes. -/
theorem step_kind (h : step s = .next t) :
    (s.ctx = .boot ∧ t = startup Config.ind (fetch s).2) ∨
    (ScanContext s ∧ s.scanActive = true ∧ t = scanLine s) ∨
    (s.ctx ≠ .boot ∧ (s.scanActive = false ∨ DecodeContext s) ∧ Move s t ∧
      ((∃ n v c, (fetch s).1 = .ok (.orbSet n v) ∧ t = orbSet c v (fetch s).2) ∨ Effect s t)) := by
  rcases step_cases h with ⟨hb, he⟩ | ⟨hr, i, hf, hi, he⟩ | hscan | ⟨hd, rfl⟩ | ⟨hc, ha, rfl⟩
  · exact .inl ⟨hb, (execInit_next.mp he).2⟩
  · obtain ⟨hctx, hqst, hoff⟩ := hr
    obtain ⟨hm, hw⟩ := exec_kind
      ⟨(fetch_ctx s).trans hctx, (fetch_qst s).trans hqst, (sameScan_fetch s).scanActive.trans hoff⟩ hi he
    refine .inr (.inr ⟨by simp [hctx], .inl hoff, hm.of_fetch, ?_⟩)
    rcases hw with ⟨n, v, c, rfl, rfl⟩ | he
    · exact .inl ⟨n, v, c, hf, rfl⟩
    · exact .inr (he.after (sameData_fetch s))
  · exact .inr (.inl hscan)
  · have hc : s.ctx = .hEnc ∨ s.ctx = .idle := hd.imp_right And.left
    exact .inr (.inr ⟨by rcases hc with hc | hc <;> simp [hc], .inr hd,
      move_decoderLine hc.symm hc ⟨rfl, rfl, rfl⟩, .inr (effect_decoderLine s)⟩)
  · exact .inr (.inr ⟨by simp [hc], .inl ha, move_buttonHandlerEnd s, .inr (effect_buttonHandlerEnd s)⟩)

/-! The lines of a scan -/

/-- What each line of SCAN leaves alone, the scan leaves alone. -/
theorem scanLine_keeps {α : Type} (f : State → α) (s : State) (hsend : ∀ i, f (scanSend i s) = f s)
    (hsample : ∀ i, f (scanSample i s) = f s) (hrestore : f (scanRestore s) = f s) (hend : f (scanEnd s) = f s) :
    f (scanLine s) = f s := by
  obtain ⟨i, -, -, h⟩ | ⟨i, -, -, h⟩ | ⟨-, -, h⟩ | ⟨-, -, h⟩ := scanLine_cases s <;> rw [h]
  · exact hsend i
  · exact hsample i
  · exact hrestore
  · exact hend

@[simp] theorem scanLine_en (s : State) : (scanLine s).en = s.en :=
  scanLine_keeps State.en s (fun _ => rfl) (fun _ => rfl) rfl rfl
@[simp] theorem scanLine_duty (s : State) : (scanLine s).duty = s.duty :=
  scanLine_keeps State.duty s (fun _ => rfl) (fun _ => rfl) rfl rfl
@[simp] theorem scanLine_sel (s : State) : (scanLine s).sel = s.sel :=
  scanLine_keeps State.sel s (fun _ => rfl) (fun _ => rfl) rfl rfl
@[simp] theorem scanLine_orb (s : State) : (scanLine s).orb = s.orb :=
  scanLine_keeps State.orb s (fun _ => rfl) (fun _ => rfl) rfl rfl
@[simp] theorem scanLine_pwmCmp (s : State) : (scanLine s).pwmCmp = s.pwmCmp :=
  scanLine_keeps State.pwmCmp s (fun _ => rfl) (fun _ => rfl) rfl rfl
@[simp] theorem scanLine_ctx (s : State) : (scanLine s).ctx = s.ctx :=
  scanLine_keeps State.ctx s (fun _ => rfl) (fun _ => rfl) rfl rfl
@[simp] theorem scanLine_qst (s : State) : (scanLine s).qst = s.qst :=
  scanLine_keeps State.qst s (fun _ => rfl) (fun _ => rfl) rfl rfl
@[simp] theorem scanLine_cmds (s : State) : (scanLine s).cmds = s.cmds :=
  scanLine_keeps State.cmds s (fun _ => rfl) (fun _ => rfl) rfl rfl

end Sys2Proof.Machine
end

section
/-!
SUPPORT. The invariants I2 to I6 and the suspended I3 of a scan (spec/10_state.md R40, R41): kept by every step, and what
they say at an operation boundary.
-/

namespace Sys2Proof.Machine

variable {s t : State}

/-- I2, I3 and I4 of R40, with no scan in progress. -/
structure OutputsFollow (s : State) : Prop where
  indicator : indicatorBits s.orb = Config.ind
  latch : s.outLatch = s.orb
  synced : Synced s

/-- Outside a scan the byte that OUT_LATCH must hold is ORB. -/
theorem latchByte_off (h : s.scanActive = false) : latchByte s = s.orb := by
  simp [latchByte, h]

/-- At the start of a scan the byte that OUT_LATCH must hold is still ORB. -/
theorem latchByte_started (hi : s.scanI = 0) (hs : s.scanSent = false) : latchByte s = s.orb := by
  simp [latchByte, hi, hs]

/-! Kept by the writes -/

theorem OutputsFollow.sameData (ho : OutputsFollow s) (h : SameData s t) : OutputsFollow t where
  indicator := by rw [h.orb, ho.indicator]
  latch := by rw [h.outLatch, h.orb, ho.latch]
  synced := by rw [Synced, h.pwmCmp, h.en, h.duty, ho.synced]

theorem OutputsFollow.orbSet (ho : OutputsFollow s) (c : Channel) (v : Bool) : OutputsFollow (orbSet c v s) where
  indicator := (indicatorBits_assignEnable c v s.orb).trans ho.indicator
  latch := rfl
  synced := ho.synced

theorem OutputsFollow.togglePower (ho : OutputsFollow s) (c : Channel) : OutputsFollow (togglePower c s) := by
  rw [togglePower_eq]
  refine ⟨(indicatorBits_assignEnable _ _ s.orb).trans ho.indicator, rfl, ?_⟩
  by_cases hc : c = adjCh
  · subst hc
    cases s.en[adjCh] <;> simp [Synced]
  · have hne : c.val ≠ adjCh.val := fun h => hc (Fin.ext h)
    simpa [Synced, hc, Vector.getElem_set, hne] using ho.synced

theorem OutputsFollow.adjust (ho : OutputsFollow s) (inc : Bool) (hsel : s.sel = adjCh) :
    OutputsFollow (adjust inc s) := by
  refine ⟨by simpa using ho.indicator, by simpa using ho.latch, ?_⟩
  rw [adjust_selected inc s hsel]
  cases he : s.en[adjCh]
  · simpa [Synced, he] using ho.synced
  · simp [Synced, he]

theorem OutputsFollow.writes (ho : OutputsFollow s) (h : Writes s t) : OutputsFollow t := by
  cases h with
  | nothing => exact ho
  | select => exact ⟨ho.indicator, ho.latch, ho.synced⟩
  | toggle c => exact ho.togglePower c
  | adjust inc hsel => exact ho.adjust inc hsel

theorem OutputsFollow.effect (ho : OutputsFollow s) (h : Effect s t) : OutputsFollow t := by
  obtain ⟨u, v, hu, hw, ht⟩ := h
  exact ((ho.sameData hu).writes hw).sameData ht

/-! Kept by the moves of the sequencer -/

/-- Between scans the sequencer registers agree after a move, and OUT_LATCH must hold ORB. -/
theorem Move.sequencerOk (h : Move s t) (hoff : s.scanActive = false) (hseq : SequencerOk s) :
    SequencerOk t ∧ latchByte t = t.orb := by
  obtain ⟨-, -, -, hquiet⟩ := hseq
  obtain ⟨hi, hsent⟩ := hquiet hoff
  cases h with
  | rests hctx hscan =>
    have hoff' := hscan.scanActive.trans hoff
    exact ⟨by simp [SequencerOk, hctx, hoff', hscan.scanI, hscan.scanSent, hi, hsent], latchByte_off hoff'⟩
  | scans _ hctx hqst hactive hi' hsent' =>
    exact ⟨by rcases hctx with hctx | hctx <;> simp [SequencerOk, hctx, hqst, hactive],
      latchByte_started hi' hsent'⟩
  | waits _ hctx hqst hscan =>
    have hoff' := hscan.scanActive.trans hoff
    exact ⟨by rcases hctx with hctx | hctx <;>
        simp [SequencerOk, hctx, hqst, hoff', hscan.scanI, hscan.scanSent, hi, hsent], latchByte_off hoff'⟩

/-- No scan is in progress during a decode (I6). -/
theorem scanActive_of_decoding (hseq : SequencerOk s) (hd : DecodeContext s) : s.scanActive = false := by
  obtain ⟨hidle, -, henc, -⟩ := hseq
  rcases hd with hc | ⟨hc, hq⟩
  · exact (henc hc).2
  · exact (hidle hc).resolve_left hq

/-! Kept by each kind of step -/

theorem inv_startup (s : State) : Inv (startup Config.ind s) := by
  rw [startup_eq]
  exact .inr ⟨indicatorBits_startupByte Config.ind, rfl, rfl, by simp [SequencerOk]⟩

theorem outLatch_scanLine (ha : s.scanActive = true) (h : s.outLatch = latchByte s) :
    (scanLine s).outLatch = latchByte (scanLine s) := by
  obtain ⟨i, hi, -, hl⟩ | ⟨i, hi, hs, hl⟩ | ⟨hi, -, hl⟩ | ⟨hi, hs, hl⟩ := scanLine_cases s <;> rw [hl]
  · simp [latchByte, ha, hi]
  · simpa [latchByte, ha, hi, hs] using h
  · simp [latchByte, ha, hi]
  · simpa [latchByte, ha, hi, hs] using h

theorem sequencerOk_scanLine (ha : s.scanActive = true) (hc : ScanContext s) (hseq : SequencerOk s) :
    SequencerOk (scanLine s) := by
  have hquiet : (scanLine s).scanActive = false → (scanLine s).scanI = 0 ∧ (scanLine s).scanSent = false := by
    obtain ⟨i, -, -, hl⟩ | ⟨i, -, -, hl⟩ | ⟨-, -, hl⟩ | ⟨-, -, hl⟩ := scanLine_cases s <;> simp [hl, ha]
  obtain ⟨-, hbtn, -, -⟩ := hseq
  have hq : s.qst = .idle := hc.elim hbtn And.right
  rcases hc with hc | ⟨hc, -⟩ <;> exact ⟨by simp [hc, hq], by simp [hq], by simp [hc], hquiet⟩

theorem inv_scanLine (hb : s.ctx ≠ .boot) (hc : ScanContext s) (ha : s.scanActive = true) (hinv : Inv s) :
    Inv (scanLine s) := by
  obtain ⟨hind, hlatch, hsync, hseq⟩ := hinv.resolve_left hb
  exact .inr ⟨by simpa using hind, outLatch_scanLine ha hlatch, by simpa [Synced] using hsync,
    sequencerOk_scanLine ha hc hseq⟩

theorem scanContext_ne_boot (hc : ScanContext s) : s.ctx ≠ .boot := by
  rcases hc with hc | ⟨hc, -⟩ <;> simp [hc]

theorem inv_step (hinv : Inv s) (h : step s = .next t) : Inv t := by
  rcases step_kind h with ⟨-, rfl⟩ | ⟨hc, ha, rfl⟩ | ⟨hb, hd, hm, hw⟩
  · exact inv_startup _
  · exact inv_scanLine (scanContext_ne_boot hc) hc ha hinv
  · obtain ⟨hind, hlatch, hsync, hseq⟩ := hinv.resolve_left hb
    have hoff : s.scanActive = false := hd.elim id (scanActive_of_decoding hseq)
    have hs : OutputsFollow s := ⟨hind, hlatch.trans (latchByte_off hoff), hsync⟩
    have ht : OutputsFollow t := by
      rcases hw with ⟨_, v, c, -, rfl⟩ | he
      · exact (hs.sameData (sameData_fetch s)).orbSet c v
      · exact hs.effect he
    obtain ⟨hseq', hlatch'⟩ := hm.sequencerOk hoff hseq
    exact .inr ⟨ht.indicator, ht.latch.trans hlatch'.symm, ht.synced, hseq'⟩

/-- Settles O44: outside a scan the outputs follow the registers through every write, and each line of a scan transmits
the byte that its position determines. -/
theorem invariantKept : Obligations.InvariantKept := fun _ _ => inv_step

/-- Settles O45: at power-up CTX = BOOT. -/
theorem invariantAtReset : Obligations.InvariantAtReset := .inl rfl

theorem inv_stepsTo {n : Nat} (hinv : Inv s) (h : stepsTo n s t) : Inv t := by
  induction n generalizing s with
  | zero => exact h ▸ hinv
  | succ n ih =>
    obtain ⟨u, hu, h⟩ := h
    exact ih (inv_step hinv hu) h

/-- Settles O48: a run keeps the invariant, and at a boundary no scan suspends I3. -/
theorem boundaryInvariants : Obligations.BoundaryInvariants := by
  intro s n t hinv h hready
  obtain ⟨hctx, hqst, hoff⟩ := hready
  obtain ⟨hind, hlatch, hsync, -⟩ := (inv_stepsTo hinv h).resolve_left (by simp [hctx])
  exact ⟨hind, hlatch.trans (latchByte_off hoff), hsync, hqst, hoff⟩

end Sys2Proof.Machine
end

section
/-!
SUPPORT. I1, the mirror of the enable flags in ORB (spec/10_state.md R40), kept where no ORB.SET is lined up (R126).
-/

namespace Sys2Proof.Machine

variable {s t : State}

theorem Mirrored.sameData (hm : Mirrored s) (h : SameData s t) : Mirrored t := by
  intro c
  simpa [h.orb, h.en] using hm c

theorem Mirrored.togglePower (hm : Mirrored s) (c : Channel) : Mirrored (togglePower c s) := by
  intro d
  rw [togglePower_eq]
  have hd := hm d
  by_cases hdc : d = c
  · subst hdc
    simp [enableLine_assignEnable]
  · have hne : c.val ≠ d.val := fun h => hdc (Fin.ext h.symm)
    simpa [enableLine_assignEnable, Vector.getElem_set, hdc, hne] using hd

theorem Mirrored.writes (hm : Mirrored s) (h : Writes s t) : Mirrored t := by
  cases h with
  | nothing => exact hm
  | select => exact hm
  | toggle c => exact Mirrored.togglePower hm c
  | adjust inc => intro c; simpa using hm c

theorem Mirrored.effect (hm : Mirrored s) (h : Effect s t) : Mirrored t := by
  obtain ⟨u, v, hu, hw, ht⟩ := h
  exact Mirrored.sameData (Mirrored.writes (Mirrored.sameData hm hu) hw) ht

theorem mirrored_startup (ind : BitVec 5) (s : State) : Mirrored (startup ind s) := by
  intro c
  rw [startup_eq]
  fin_cases c <;> exact enableLine_startupByte ind _

theorem Writes.cmds_eq (h : Writes s t) : t.cmds = s.cmds := by
  cases h <;> simp

theorem Effect.cmds_subset (h : Effect s t) : t.cmds ⊆ s.cmds := by
  obtain ⟨u, v, hu, hw, ht⟩ := h
  exact List.Subset.trans ht.cmds (hw.cmds_eq ▸ hu.cmds)

theorem NoDirectSet.of_subset (hn : NoDirectSet s) (h : t.cmds ⊆ s.cmds) : NoDirectSet t :=
  fun b hb => hn b (h hb)

/-- With no ORB.SET lined up none is fetched. -/
theorem NoDirectSet.fetch_ne (hn : NoDirectSet s) (n : BitVec 2) (v : Bool) : (fetch s).1 ≠ .ok (.orbSet n v) := by
  intro h
  obtain ⟨b, hb, hd⟩ := fetch_orbSet h
  exact hn b hb n v hd

/-- Settles O46: TOGGLE writes the flag and its mirror together, startup clears both, and without a direct ORB.SET nothing
else writes either. -/
theorem mirrorKept : Obligations.MirrorKept := by
  rintro s t ⟨hn, hm⟩ h
  rcases step_kind h with ⟨-, rfl⟩ | ⟨hc, -, rfl⟩ | ⟨hb, -, -, ⟨n, v, -, hf, -⟩ | he⟩
  · exact ⟨NoDirectSet.of_subset hn (by rw [startup_eq]; exact (sameData_fetch s).cmds),
      .inr (mirrored_startup _ _)⟩
  · have hm := hm.resolve_left (scanContext_ne_boot hc)
    exact ⟨NoDirectSet.of_subset hn (by simp), .inr fun c => by simpa using hm c⟩
  · exact absurd hf (NoDirectSet.fetch_ne hn n v)
  · exact ⟨NoDirectSet.of_subset hn he.cmds_subset, .inr (Mirrored.effect (hm.resolve_left hb) he)⟩

/-- Settles O47: at power-up nothing is lined up and CTX = BOOT. -/
theorem mirrorAtReset : Obligations.MirrorAtReset :=
  ⟨fun _ hb => absurd hb List.not_mem_nil, .inl rfl⟩

end Sys2Proof.Machine
end

section
/-!
SUPPORT. Safety of every step: the contexts (spec/10_state.md R30), DUTY (R22, R190), and the events that announce the
outputs (R27, R28, R196).
-/

namespace Sys2Proof.Machine

variable {s t u v : State}

/-- A move ends at IDLE, in the handler it was in, or in one entered from IDLE (R30, R242, R243). -/
theorem Move.ctx (h : Move s t) :
    t.ctx = .idle ∨ (s.ctx = .idle ∧ t.ctx = .hBtn) ∨ ((s.ctx = .idle ∨ s.ctx = .hEnc) ∧ t.ctx = .hEnc) := by
  cases h with
  | rests hctx => exact .inl hctx
  | scans hs hctx => exact hctx.elim (fun hc => .inr (.inl ⟨hs, hc⟩)) .inl
  | waits hs hctx => exact hctx.elim (fun hc => .inr (.inr ⟨hs, hc⟩)) .inl

/-- Settles O13: startup ends at IDLE, a line of a scan keeps CTX, and every other step is a move. -/
theorem contextTransitions : Obligations.ContextTransitions := by
  intro s t h
  rcases step_kind h with ⟨hc, rfl⟩ | ⟨hsc, -, rfl⟩ | ⟨-, -, hm, -⟩
  · have ht : (startup Config.ind (fetch s).2).ctx = .idle := rfl
    simp [hc, ht]
  · rcases hsc with hc | ⟨hc, -⟩ <;> simp [hc]
  · rcases hm.ctx with ht | ⟨hs, ht⟩ | ⟨hs | hs, ht⟩
    · simp [ht]
    · simp [hs, ht]
    · simp [hs, ht]
    · simp [hs, ht]

/-! DUTY -/

/-- ADJ's new DUTY is at most one away (R190, R191). -/
theorem adjustDuty_moves_by_one (inc : Bool) (d : Duty) (h : adjustDuty inc d ≠ d) :
    (adjustDuty inc d).val = d.val + 1 ∨ d.val = (adjustDuty inc d).val + 1 := by
  have hne : (adjustDuty inc d).val ≠ d.val := fun he => h (Fin.ext he)
  cases inc <;> simp only [adjustDuty, incDuty_val, decDuty_val, if_true, Bool.false_eq_true, if_false] at hne ⊢ <;>
    omega

/-- A write that changes DUTY is ADJ with the adjustable channel selected. -/
theorem Writes.duty (h : Writes s t) (hne : t.duty ≠ s.duty) :
    s.sel = adjCh ∧ t.sel = adjCh ∧ (t.duty.val = s.duty.val + 1 ∨ s.duty.val = t.duty.val + 1) := by
  cases h with
  | nothing => exact absurd rfl hne
  | select => exact absurd rfl hne
  | toggle c => exact absurd (togglePower_duty s c) hne
  | adjust inc hsel =>
    have hd : (Machine.adjust inc s).duty = adjustDuty inc s.duty := by rw [adjust_selected inc s hsel]
    rw [hd] at hne ⊢
    exact ⟨hsel, (adjust_sel s inc).trans hsel, adjustDuty_moves_by_one inc s.duty hne⟩

/-- Settles O30: after startup only ADJ writes DUTY. -/
theorem dutyMovesByOne : Obligations.DutyMovesByOne := by
  intro s t h hb hne
  rcases step_kind h with ⟨hc, -⟩ | ⟨-, -, rfl⟩ | ⟨-, -, -, ⟨_, _, _, -, rfl⟩ | ⟨u, v, hu, hw, ht⟩⟩
  · exact absurd hc hb
  · exact absurd (scanLine_duty s) hne
  · exact absurd (sameData_fetch s).duty hne
  · rw [ht.duty, ← hu.duty] at hne
    rw [ht.duty, ht.sel, ← hu.duty, ← hu.sel]
    exact hw.duty hne

/-! The outputs -/

/-- The event `e` was emitted on the way from `s` to `t`. -/
def Emitted (s t : State) (e : Event) : Prop := e ∈ t.trace.drop s.trace.length

/-- An output that differs was announced by an event with its new value. -/
structure Announced (s t : State) : Prop where
  pwm : t.pwmCmp ≠ s.pwmCmp → Emitted s t (.pwmw t.pwmCmp)
  latch : t.outLatch ≠ s.outLatch → Emitted s t (.tx t.outLatch)

theorem emitted_of_append {es : List Event} {e : Event} (h : t.trace = s.trace ++ es) (he : e ∈ es) : Emitted s t e := by
  simpa [Emitted, h] using he

/-- A longer stretch of the run emits what a part of it does. -/
theorem Emitted.widen {e : Event} (h : Emitted u v e) (hs : s.trace <+: u.trace) (ht : v.trace <+: t.trace) :
    Emitted s t e :=
  List.drop_subset_drop_left _ hs.length_le ((ht.drop _).subset h)

theorem Announced.widen (h : Announced u v) (hu : SameData s u) (ht : SameData v t) : Announced s t where
  pwm hne := by
    rw [ht.pwmCmp, ← hu.pwmCmp] at hne
    exact ht.pwmCmp ▸ (h.pwm hne).widen hu.trace ht.trace
  latch hne := by
    rw [ht.outLatch, ← hu.outLatch] at hne
    exact ht.outLatch ▸ (h.latch hne).widen hu.trace ht.trace

theorem SameData.announced (h : SameData s t) : Announced s t :=
  ⟨fun hne => absurd h.pwmCmp hne, fun hne => absurd h.outLatch hne⟩

theorem announced_startup (ind : BitVec 5) (s : State) : Announced s (startup ind s) := by
  rw [startup_eq]
  exact ⟨fun _ => emitted_of_append rfl (by simp), fun _ => emitted_of_append rfl (by simp)⟩

theorem announced_tx (b : Byte) (s : State) : Announced s (tx b s) :=
  ⟨fun hne => absurd rfl hne, fun _ => emitted_of_append rfl (by simp)⟩

theorem announced_orbSet (c : Channel) (b : Bool) (s : State) : Announced s (orbSet c b s) :=
  ⟨fun hne => absurd rfl hne, fun _ => emitted_of_append rfl (by simp)⟩

theorem announced_scanLine (s : State) : Announced s (scanLine s) := by
  obtain ⟨i, -, -, h⟩ | ⟨i, -, -, h⟩ | ⟨-, -, h⟩ | ⟨-, -, h⟩ := scanLine_cases s <;> rw [h]
  · exact (announced_tx _ s).widen (.refl s) { SameData.refl _ with }
  · exact SameData.announced { SameData.refl s with }
  · exact (announced_tx _ s).widen (.refl s) { SameData.refl _ with }
  · exact SameData.announced { SameData.refl s with }

theorem announced_togglePower (c : Channel) (s : State) : Announced s (togglePower c s) := by
  rw [togglePower_eq]
  refine ⟨fun hne => emitted_of_append rfl ?_, fun _ => emitted_of_append rfl (by simp)⟩
  by_cases hc : c = adjCh
  · simp [hc]
  · simp [hc] at hne

theorem announced_adjust (inc : Bool) (hsel : s.sel = adjCh) : Announced s (adjust inc s) := by
  rw [adjust_selected inc s hsel]
  refine ⟨fun hne => emitted_of_append rfl ?_, fun hne => absurd rfl hne⟩
  cases he : s.en[adjCh]
  · simp [he] at hne
  · simp

theorem Writes.announced (h : Writes s t) : Announced s t := by
  cases h with
  | nothing => exact (SameData.refl s).announced
  | select => exact ⟨fun hne => absurd rfl hne, fun hne => absurd rfl hne⟩
  | toggle c => exact announced_togglePower c s
  | adjust inc hsel => exact announced_adjust inc hsel

theorem announced_step (h : step s = .next t) : Announced s t := by
  rcases step_kind h with ⟨-, rfl⟩ | ⟨-, -, rfl⟩ | ⟨-, -, -, ⟨_, _, _, -, rfl⟩ | ⟨u, v, hu, hw, ht⟩⟩
  · exact (announced_startup _ _).widen (sameData_fetch s) (.refl _)
  · exact announced_scanLine s
  · exact (announced_orbSet _ _ _).widen (sameData_fetch s) (.refl _)
  · exact hw.announced.widen hu ht

/-- Settles O31: each write of an output emits the value written. -/
theorem outputsChangeByEvents : Obligations.OutputsChangeByEvents :=
  fun _ _ h => ⟨(announced_step h).pwm, (announced_step h).latch⟩

end Sys2Proof.Machine
end

section
/-!
SUPPORT. The registers during a whole SCAN (spec/10_state.md R41, spec/41_button_scanner.md R144) and after startup
(R50 to R58).
-/

namespace Sys2Proof.Machine

variable {s t u v : State}

/-- What a scan started from `s` leaves as it was, at each of its steps (R41, R144). -/
structure ScanHolds (s u : State) : Prop where
  kept : keptBits u.outLatch = keptBits s.orb
  orb : u.orb = s.orb
  en : u.en = s.en
  duty : u.duty = s.duty
  sel : u.sel = s.sel
  pwmCmp : u.pwmCmp = s.pwmCmp
  qst : u.qst = s.qst
  ctx : u.ctx = s.ctx

/-- How many of the ten lines after S0 a scan has run (R138). -/
def linesRun (s : State) : Nat := 2 * s.scanI.val + s.scanSent.toNat

/-- The transmits of a scan carry ORB's bits 3:0 (R93, R94). -/
theorem keptBits_scanLine (h : keptBits s.outLatch = keptBits s.orb) :
    keptBits (scanLine s).outLatch = keptBits s.orb := by
  obtain ⟨i, -, -, hl⟩ | ⟨i, -, -, hl⟩ | ⟨-, -, hl⟩ | ⟨-, -, hl⟩ := scanLine_cases s <;> rw [hl]
  · exact keptBits_candidate i s.orb
  · exact h
  · rfl
  · exact h

theorem ScanHolds.next (h : ScanHolds s u) : ScanHolds s (scanLine u) where
  kept := by rw [keptBits_scanLine (h.kept.trans (by rw [h.orb])), h.orb]
  orb := by simp [h.orb]
  en := by simp [h.en]
  duty := by simp [h.duty]
  sel := by simp [h.sel]
  pwmCmp := by simp [h.pwmCmp]
  qst := by simp [h.qst]
  ctx := by simp [h.ctx]

/-- A line that is not the last goes on with the scan. -/
theorem scanLine_goes_on (ha : s.scanActive = true) (h : linesRun s < 9) :
    (scanLine s).scanActive = true ∧ linesRun (scanLine s) = linesRun s + 1 := by
  obtain ⟨i, hi, hs, hl⟩ | ⟨i, hi, hs, hl⟩ | ⟨hi, hs, hl⟩ | ⟨hi, hs, hl⟩ := scanLine_cases s <;> rw [hl]
  · simp [linesRun, ha, hi, hs]
  · simp [linesRun, ha, hi, hs]; omega
  · simp [linesRun, ha, hi, hs]
  · simp [linesRun, hi, hs] at h

/-- A run that stays within the scan in progress holds what the scan holds. -/
theorem ScanHolds.run (hs : Ready s) {k : Nat} (h : ScanHolds s u)
    (hk : 0 < k → u.scanActive = true ∧ linesRun u + k ≤ 10) (hrun : stepsTo k u v) : ScanHolds s v := by
  induction k generalizing u with
  | zero => exact hrun ▸ h
  | succ k ih =>
    obtain ⟨ha, hlines⟩ := hk k.succ_pos
    obtain ⟨hctx, hqst, -⟩ := hs
    obtain ⟨w, hw, hrun⟩ := hrun
    obtain rfl : scanLine u = w := by
      simpa [step_scanning (.inr ⟨h.ctx.trans hctx, h.qst.trans hqst⟩) ha] using hw
    refine ih h.next (fun hpos => ?_) hrun
    obtain ⟨ha', hnext⟩ := scanLine_goes_on ha (by omega)
    exact ⟨ha', by omega⟩

/-- Settles O18: the start of a scan and each of its ten lines hold what R41 names. -/
theorem scanHoldsEnableLines : Obligations.ScanHoldsEnableLines := by
  intro s t u k hready hlatch hstart hk hrun
  obtain ⟨-, -, rfl⟩ := execScan_next.mp hstart
  have hheld : ScanHolds s (scanStart s) := ⟨congrArg keptBits hlatch, rfl, rfl, rfl, rfl, rfl, rfl, rfl⟩
  obtain ⟨hkept, horb, hen, hduty, hsel, hpwm, hqst, hctx⟩ :=
    hheld.run hready (fun _ => ⟨rfl, by simpa [linesRun] using hk⟩) hrun
  exact ⟨hkept, horb, hen, hduty, hsel, hpwm, hqst, hctx⟩

/-- IND << 3 bit by bit (R53). -/
theorem startupByte_getLsbD (ind : BitVec 5) (k : Nat) (hk : k < 8) :
    (startupByte ind).getLsbD k = if k < 3 then false else ind.getLsbD (k - 3) := by
  by_cases h : k < 3 <;> simp [startupByte, h, hk]

/-- Settles O42: the state INIT answers, read register by register. -/
theorem startupValues : Obligations.StartupValues := by
  intro s hs
  refine ⟨_, execInit_next.mpr ⟨hs, rfl⟩, ?_⟩
  rw [startup_eq]
  refine ⟨fun c => by fin_cases c <;> rfl, rfl, rfl, fun k hk => ?_, fun k hk => ?_, rfl, rfl, rfl, rfl, rfl, rfl, rfl⟩
  · simp [startupByte_getLsbD Config.ind k (by omega), hk]
  · simp [startupByte_getLsbD Config.ind (k + 3) (by omega)]

end Sys2Proof.Machine
end

section
/-!
SUPPORT. SCAN's result where the panel answers the scan lines (spec/20_memory.md R66, spec/41_button_scanner.md R141):
each line keeps HIT at the highest-numbered held button among those scanned so far.
-/

namespace Sys2Proof.Machine

variable {pressed : ButtonId → Bool} {u w : State}

/-- The highest-numbered held button among those below `n`. -/
def highestBelow (pressed : ButtonId → Bool) (n : Nat) : Option ButtonId :=
  highest fun i => pressed i && decide (i.val < n)

theorem highestBelow_zero (pressed : ButtonId → Bool) : highestBelow pressed 0 = none := by
  simp [highestBelow, highest]

theorem highestBelow_all (pressed : ButtonId → Bool) : highestBelow pressed 4 = highest pressed := by
  simp [highestBelow, highest]

/-- An ascending scan overwrites an earlier hit by a later one (R141). -/
theorem recordHit_highestBelow (pressed : ButtonId → Bool) (i : ButtonId) :
    recordHit (pressed i) i (highestBelow pressed i.val) = highestBelow pressed (i.val + 1) := by
  fin_cases i <;> simp [recordHit, highestBelow, highest]

/-- A scan in progress: before a sample the scan lines carry the pattern of its button, and HIT tells of the buttons
sampled so far. -/
structure Scanned (pressed : ButtonId → Bool) (u : State) : Prop where
  context : ScanContext u
  active : u.scanActive = true
  pattern : ∀ i : ButtonId, u.scanI = i.castSucc → u.scanSent = true → scanLines u.outLatch = scanLines (scanPat i)
  hit : u.hit = highestBelow pressed u.scanI.val

theorem Scanned.step_eq (h : Scanned pressed u) (hstep : step u = .next w) : w = scanLine u := by
  simpa [step_scanning h.context h.active, eq_comm] using hstep

/-- The sample of line S2.i tells whether button i is held (R66). -/
theorem Scanned.sample (h : Scanned pressed u) (hp : EPanel pressed u) {i : ButtonId} (hi : u.scanI = i.castSucc)
    (hs : u.scanSent = true) : btnAt u 0 = pressed i :=
  hp ⟨h.active, hs, by simp [hi]⟩ i (h.pattern i hi hs)

/-- After line S1.i the scan lines carry the pattern of button i, which is sampled next (R93, R138). -/
theorem scanLines_scanLine (i : ButtonId) (hi : (scanLine u).scanI = i.castSucc) (hs : (scanLine u).scanSent = true) :
    scanLines (scanLine u).outLatch = scanLines (scanPat i) := by
  obtain ⟨j, hj, -, hl⟩ | ⟨j, -, -, hl⟩ | ⟨hj, -, hl⟩ | ⟨-, -, hl⟩ := scanLine_cases u <;> rw [hl] at hi hs ⊢
  · obtain rfl : j = i := Fin.castSucc_injective _ (hj.symm.trans hi)
    exact scanLines_candidate j u.orb
  · simp at hs
  · exact absurd (hi.symm.trans hj) (Fin.castSucc_ne_last i)
  · simp at hs

/-- A line that is not the last keeps this, where the panel answers. -/
theorem Scanned.next (h : Scanned pressed u) (hp : EPanel pressed u) (hlines : linesRun u < 9) :
    Scanned pressed (scanLine u) where
  context := by simpa [ScanContext] using h.context
  active := (scanLine_goes_on h.active hlines).1
  pattern := scanLines_scanLine
  hit := by
    obtain ⟨i, -, -, hl⟩ | ⟨i, hi, hs, hl⟩ | ⟨-, -, hl⟩ | ⟨hi, hs, hl⟩ := scanLine_cases u
    · simpa [hl] using h.hit
    · simp [hl, h.hit, h.sample hp hi hs, hi, recordHit_highestBelow]
    · simpa [hl] using h.hit
    · simp [linesRun, hi, hs] at hlines

/-- The last line leaves HIT as the whole scan found it. -/
theorem Scanned.last (h : Scanned pressed u) (hlines : linesRun u = 9) : (scanLine u).hit = highest pressed := by
  have hi : u.scanI = 4 := by
    have : u.scanSent.toNat ≤ 1 := Bool.toNat_le _
    unfold linesRun at hlines
    omega
  have hs : u.scanSent = true := Bool.toNat_eq_one.mp (by simp [linesRun, hi] at hlines; omega)
  simp [scanLine_end hi hs, h.hit, hi, highestBelow_all]

/-- The lines still to run lead to the result of the whole scan. -/
theorem Scanned.run {n : Nat} (h : Scanned pressed u) (hlines : linesRun u + n = 9)
    (hp : ∀ k v, k < n + 1 → stepsTo k u v → EPanel pressed v) (hrun : stepsTo (n + 1) u w) :
    w.hit = highest pressed := by
  induction n generalizing u with
  | zero =>
    obtain ⟨v, hv, rfl⟩ := hrun
    obtain rfl := h.step_eq hv
    exact h.last hlines
  | succ n ih =>
    obtain ⟨v, hv, hrun⟩ := hrun
    obtain rfl := h.step_eq hv
    obtain ⟨-, hnext⟩ := scanLine_goes_on h.active (by omega)
    exact ih (h.next (hp 0 u (by omega) rfl) (by omega)) (by omega)
      (fun k v hk hv' => hp (k + 1) v (by omega) ⟨_, hv, hv'⟩) hrun

/-- Settles O19: the ten lines keep HIT at the highest held button scanned so far. -/
theorem scanReportsHeldButton : Obligations.ScanReportsHeldButton := by
  intro pressed s t u ⟨hctx, hqst, _⟩ hstart hp hrun
  obtain ⟨-, -, rfl⟩ := execScan_next.mp hstart
  have hscan : Scanned pressed (scanStart s) :=
    ⟨.inr ⟨hctx, hqst⟩, rfl, fun _ _ hs => by simp at hs, (highestBelow_zero pressed).symm⟩
  exact hscan.run (n := 9) rfl hp hrun

end Sys2Proof.Machine
end

section
/-!
SUPPORT. The waits of QDEC (spec/42_quadrature_decoder.md R160, R166) and their end under E-PULSE (spec/20_memory.md
R67).
-/

namespace Sys2Proof.Machine

variable {s t : State}

/-- `n` encoder samples have been taken, and nothing else has changed. -/
def skipEnc (n : Nat) (s : State) : State := { s with encIn := s.encIn.drop n, encTaken := s.encTaken + n }

theorem skipEnc_dropEnc (n : Nat) (s : State) : skipEnc n (dropEnc s) = skipEnc (n + 1) s := by
  simp [skipEnc, dropEnc, Nat.add_assoc, Nat.add_comm 1]

theorem encAt_skipEnc (n k : Nat) (s : State) : encAt (skipEnc n s) k = encAt s (n + k) := by
  simp [encAt, skipEnc, Nat.add_assoc]

/-- Each sample that does not end the wait is one step, which changes nothing but the samples taken (R160). -/
theorem stepsTo_wait {n : Nat} (hc : DecodeContext s) (hq : s.qst ≠ .idle)
    (h : ∀ k < n, waitEnds s.qst (encAt s k) = false) : stepsTo n s (skipEnc n s) := by
  induction n generalizing s with
  | zero => rfl
  | succ n ih =>
    refine ⟨dropEnc s, by rw [step_decoding hc, decoderLine_stay hq (h 0 n.succ_pos)], ?_⟩
    rw [← skipEnc_dropEnc]
    exact ih hc hq fun k hk => by rw [encAt_dropEnc]; exact h (k + 1) (by omega)

/-- E-PULSE speaks of every later sample, so it holds on after `n` samples. -/
theorem EPulse.after (h : EPulse s) (n : Nat) (ht : ∀ k, encAt t k = encAt s (n + k)) : EPulse t := by
  intro q m
  obtain ⟨k, hk, hend⟩ := h q (n + m)
  refine ⟨k - n, by omega, ?_⟩
  rwa [ht, Nat.add_sub_cancel' (by omega)]

/-- Under E-PULSE a wait takes finitely many samples that continue it and then one that ends it (R67, R160). -/
theorem wait_ends (hc : DecodeContext s) (hq : s.qst ≠ .idle) (hp : EPulse s) :
    ∃ n, waitEnds s.qst (encAt (skipEnc n s) 0) = true ∧ stepsTo (n + 1) s (decoderLine (skipEnc n s)) := by
  have hend : ∃ k, waitEnds s.qst (encAt s k) = true := (hp s.qst 0).imp fun _ => And.right
  have hstay : ∀ k < Nat.find hend, waitEnds s.qst (encAt s k) = false := fun k hk =>
    Bool.eq_false_iff.mpr (Nat.find_min hend hk)
  exact ⟨Nat.find hend, by simpa [encAt_skipEnc] using Nat.find_spec hend,
    stepsTo_add (stepsTo_wait hc hq hstay) ⟨_, step_decoding (s := skipEnc _ s) hc, rfl⟩⟩

/-- The encoder handler returns from `s`, with no command taken on the way. -/
def HandlerReturns (s : State) : Prop := ∃ n t, stepsTo n s t ∧ t.ctx = .idle ∧ t.qst = .idle ∧ t.cmds = s.cmds

theorem decoderReturn_handler (e : Rotation) (hc : s.ctx = .hEnc) :
    decoderReturn (some e) s = returnToIdle (rotationEvent e s) := by
  simp [decoderReturn, hc]

/-- In a second wait the sample that ends it makes the call return (R161). -/
theorem handlerReturns_second_wait (hc : s.ctx = .hEnc) (hq : s.qst = .waitLineBRelease ∨ s.qst = .waitLineARelease)
    (hp : EPulse s) : HandlerReturns s := by
  obtain ⟨n, hend, hrun⟩ := wait_ends (.inl hc) (fun h => by simp [h] at hq) hp
  obtain ⟨e, he⟩ : ∃ e,
      decoderLine (skipEnc n s) = decoderReturn (some e) { dropEnc (skipEnc n s) with qst := .idle } :=
    hq.elim (fun hq => ⟨_, decoderLine_cw_second (s := skipEnc n s) hq hend⟩)
      (fun hq => ⟨_, decoderLine_ccw_second (s := skipEnc n s) hq hend⟩)
  rw [he, decoderReturn_handler (s := { dropEnc (skipEnc n s) with qst := .idle }) e hc] at hrun
  exact ⟨n + 1, _, hrun, rfl, by simp, by simp [skipEnc]⟩

/-- In a first wait the sample that ends it starts a second wait (R157). -/
theorem handlerReturns_first_wait (hc : s.ctx = .hEnc) (hq : s.qst = .cwWaitCombo ∨ s.qst = .ccwWaitCombo)
    (hp : EPulse s) : HandlerReturns s := by
  obtain ⟨n, hend, hrun⟩ := wait_ends (.inl hc) (fun h => by simp [h] at hq) hp
  obtain ⟨q, hq', he⟩ : ∃ q, (q = .waitLineBRelease ∨ q = .waitLineARelease) ∧
      decoderLine (skipEnc n s) = { dropEnc (skipEnc n s) with qst := q } :=
    hq.elim (fun hq => ⟨_, .inl rfl, decoderLine_cw_first (s := skipEnc n s) hq hend⟩)
      (fun hq => ⟨_, .inr rfl, decoderLine_ccw_first (s := skipEnc n s) hq hend⟩)
  rw [he] at hrun
  have hlater : ∀ k, encAt (dropEnc (skipEnc n s)) k = encAt s (n + 1 + k) := fun k => by
    rw [encAt_dropEnc, encAt_skipEnc, Nat.add_assoc, Nat.add_comm 1]
  have hsecond : HandlerReturns { dropEnc (skipEnc n s) with qst := q } :=
    handlerReturns_second_wait hc hq' (hp.after (n + 1) hlater)
  obtain ⟨m, t, hrun', hctx, hqst, hcmds⟩ := hsecond
  exact ⟨n + 1 + m, t, stepsTo_add hrun hrun', hctx, hqst, hcmds⟩

/-- Settles O24: E-PULSE ends the first wait, if the decode is in one, and then the second. -/
theorem decoderReturnsUnderPulse : Obligations.DecoderReturnsUnderPulse := by
  intro s hc hq hp
  cases h : s.qst with
  | idle => exact absurd h hq
  | cwWaitCombo => exact handlerReturns_first_wait hc (.inl h) hp
  | ccwWaitCombo => exact handlerReturns_first_wait hc (.inr h) hp
  | waitLineBRelease => exact handlerReturns_second_wait hc (.inl h) hp
  | waitLineARelease => exact handlerReturns_second_wait hc (.inr h) hp

end Sys2Proof.Machine
end

section
/-!
SUPPORT. Which command bytes the decoder refuses (spec/30_encoding.md R106, R107), and that the step refuses a command
for the reason of its decoder (spec/60_exceptions.md R232).
-/

namespace Sys2Proof.Machine

variable {s : State} {b : Byte}

/-! Reserved bytes -/

/-- An operation with no operand refuses a non-zero V or N (R101, R106). -/
theorem decodeNone_reserved (i : Instr) (h : vField b = true ∨ nField b ≠ 0#2) :
    decodeNone b i = .error .reservedCommand :=
  if_neg fun ⟨hv, hn⟩ => h.elim (by simp [hv]) (· hn)

/-- An operation with no V operand refuses V = 1 before it looks at N (R106, R232). -/
theorem decodeNoV_reserved (r : Except DecodeError Instr) (h : vField b = true) :
    decodeNoV b r = .error .reservedCommand :=
  if_neg (by simp [h])

/-- ADJ refuses a non-zero N (R101, R106). -/
theorem decodeAdj_reserved (h : nField b ≠ 0#2) : decodeAdj b = .error .reservedCommand := if_neg h

/-- No operation has OP 0xB, 0xC or 0xD (R106). -/
theorem decodeOp_unassigned (h : opField b = 0xB#4 ∨ opField b = 0xC#4 ∨ opField b = 0xD#4) :
    decodeOp b = .error .reservedCommand := by
  rcases h with h | h | h <;> simp [decodeOp, h]

/-- The eight operations with no operand. -/
theorem decodeOp_no_operand
    (h : opField b = 0x0#4 ∨ opField b = 0x2#4 ∨ opField b = 0x3#4 ∨ opField b = 0x4#4 ∨ opField b = 0x9#4 ∨
      opField b = 0xA#4 ∨ opField b = 0xE#4 ∨ opField b = 0xF#4) (harg : vField b = true ∨ nField b ≠ 0#2) :
    decodeOp b = .error .reservedCommand := by
  rcases h with h | h | h | h | h | h | h | h <;> simp [decodeOp, h, decodeNone_reserved _ harg]

/-- TOGGLE, EV.BTN and EV.ROT have no V operand. -/
theorem decodeOp_no_v (h : opField b = 0x5#4 ∨ opField b = 0x7#4 ∨ opField b = 0x8#4) (hv : vField b = true) :
    decodeOp b = .error .reservedCommand := by
  rcases h with h | h | h <;> simp [decodeOp, h, decodeNoV_reserved _ hv]

theorem decodeOp_adj (h : opField b = 0x6#4) (hn : nField b ≠ 0#2) : decodeOp b = .error .reservedCommand := by
  simp [decodeOp, h, decodeAdj_reserved hn]

theorem decode_bit3 (h : b.getLsbD 3 = true) : decode b = .error .reservedCommand := if_pos h

/-- What OP and ARG make reserved is reserved whatever bit 3 is. -/
theorem decode_reserved_of_decodeOp (h : decodeOp b = .error .reservedCommand) :
    decode b = .error .reservedCommand := by
  simp [decode, h]

/-! The step -/

theorem fetch_cons {rest : List Byte} (h : s.cmds = b :: rest) : fetch s = (decode b, { s with cmds := rest }) := by
  simp [fetch, h]

/-- Where a command can start, the step refuses a byte that its decoder refuses, for the same reason (R106, R107). -/
theorem step_refused_of_decode {rest : List Byte} {e : DecodeError} (hs : Startable s) (h : s.cmds = b :: rest)
    (hd : decode b = .error e) : step s = .refused (refusalOf e) := by
  simp [step_boundary hs, fetch_cons h, start, hd]

/-- Settles O5: in each clause of R106 the decoder answers reservedCommand, and the step refuses for that reason. -/
theorem reservedBytesRefused : Obligations.ReservedBytesRefused := by
  intro s b rest hs hcmds hb
  have hd : decode b = .error .reservedCommand := by
    obtain h | h | h | h | ⟨h, harg⟩ | ⟨h, hv⟩ | ⟨h, hn⟩ := hb
    · exact decode_reserved_of_decodeOp (decodeOp_unassigned (.inl h))
    · exact decode_reserved_of_decodeOp (decodeOp_unassigned (.inr (.inl h)))
    · exact decode_reserved_of_decodeOp (decodeOp_unassigned (.inr (.inr h)))
    · exact decode_bit3 h
    · exact decode_reserved_of_decodeOp (decodeOp_no_operand h harg)
    · exact decode_reserved_of_decodeOp (decodeOp_no_v h hv)
    · exact decode_reserved_of_decodeOp (decodeOp_adj h hn)
  exact step_refused_of_decode hs hcmds hd

/-! Reserved operands and result codes -/

/-- Channel 3 is refused before any other guard (R107, R232). -/
theorem withChannel_three (k : Channel → Answer) : withChannel 3#2 k = .refused .badChannel := rfl

/-- Rotation code 0b10 is refused before any other guard (R107, R232). -/
theorem withRotation_two (k : Rotation → Answer) : withRotation 2#2 k = .refused .badRotation := rfl

/-- Settles O6: the operand check is the first thing each of the three operations does. -/
theorem reservedOperandsRefused : Obligations.ReservedOperandsRefused := by
  refine ⟨rfl, rfl, rfl, rfl, rfl, rfl, fun s => ⟨fun v => ?_, ?_, ?_⟩⟩
  · simp [exec, execOrbSet, withChannel_three]
  · simp [exec, execToggle, withChannel_three]
  · simp [exec, execEvRot, withRotation_two]

/-- Settles O2: each code is evaluated; a rotation code is read back as the RotationEvent that has it. -/
theorem resultCodes : Obligations.ResultCodes :=
  ⟨rfl, rfl, rfl, rfl, rfl, rotationOf_rotationBits .none, rotationOf_rotationBits .clockwise,
    rotationOf_rotationBits .counterClockwise, rfl, rfl, rfl, rfl⟩

end Sys2Proof.Machine
end

section
/-!
SUPPORT. ORB.RD and ORB.SET (spec/40_output_register.md R121 to R123): the guards that a legal channel leaves, and the
effect as one state.
-/

namespace Sys2Proof.Machine

variable {s : State}

/-- The scan guard refuses during a scan (R146). -/
theorem whenNoScan_scanning {k : Answer} (h : s.scanActive = true) : whenNoScan s k = .refused .scanInProgress :=
  if_pos h

/-- The channel of a legal field goes to the meaning. -/
theorem withChannel_ofNat (c : Channel) (k : Channel → Answer) : withChannel (BitVec.ofNat 2 c.val) k = k c := by
  simp [withChannel]

/-- ORB.SET with a legal channel has the two guards of R236 and R146. -/
theorem exec_orbSet_ofNat (c : Channel) (v : Bool) (s : State) :
    exec (.orbSet (BitVec.ofNat 2 c.val) v) s = whenIdle s (whenNoScan s (.next (orbSet c v s))) :=
  withChannel_ofNat c _

/-- ORB.SET c, v as one state (R122). -/
theorem orbSet_eq (c : Channel) (v : Bool) (s : State) :
    orbSet c v s =
      { s with
        orb := assignEnable c v s.orb
        outLatch := assignEnable c v s.orb
        trace := s.trace ++ [.tx (assignEnable c v s.orb)] } := rfl

/-- A line other than channel c's keeps its level where the outputs showed ORB (R123). -/
theorem assignEnable_keeps_line {c : Channel} {v : Bool} {orb latch : Byte} {k : Nat} (hlatch : latch = orb) (hk : k < 8)
    (hne : k ≠ enBit c) : (assignEnable c v orb).getLsbD k = latch.getLsbD k := by
  rw [assignEnable_getLsbD c v orb k hk, if_neg hne, hlatch]

/-- Settles O14: at IDLE the guard lets ORB.RD hand back ORB. -/
theorem orbReadReturnsOrb : Obligations.OrbReadReturnsOrb := fun _ hidle => execOrbRd_next.mpr ⟨hidle, rfl⟩

/-- Settles O15: the byte sent is `assignEnable`'s, bit by bit; channel 3 and a scan in progress meet the guards. -/
theorem orbSetAssignsOneBit : Obligations.OrbSetAssignsOneBit := by
  obtain ⟨-, -, -, -, -, -, hreserved⟩ := reservedOperandsRefused
  refine ⟨by decide, fun s c v hidle hscan => ?_, fun s v => (hreserved s).1 v, fun s c v hidle hscan => ?_⟩
  · refine ⟨assignEnable c v s.orb, ?_, assignEnable_getLsbD c v s.orb, fun h _ => assignEnable_keeps_line h⟩
    rw [exec_orbSet_ofNat, whenIdle_idle hidle, whenNoScan_off hscan, orbSet_eq]
  · rw [exec_orbSet_ofNat, whenIdle_idle hidle, whenNoScan_scanning hscan]

end Sys2Proof.Machine
end

section
/-!
SUPPORT. SCAN (spec/41_button_scanner.md R138 to R146): where it starts, where its guard refuses a start, and a whole scan
as one state.
-/

namespace Sys2Proof.Machine

variable {s : State}

/-- Settles O16: the guards of R236 and R146 let SCAN run line S0. -/
theorem scanStarts : Obligations.ScanStarts := fun _ hidle hoff => execScan_next.mpr ⟨hidle, hoff, rfl⟩

/-- At IDLE what the scan guard protects is refused during a scan (R146). -/
theorem whenIdle_whenNoScan_scanning {k : Answer} (hidle : s.ctx = .idle) (hscan : s.scanActive = true) :
    whenIdle s (whenNoScan s k) = .refused .scanInProgress := by
  rw [whenIdle_idle hidle, whenNoScan_scanning hscan]

/-- TOGGLE with a legal channel has the two guards of R236 and R146. -/
theorem exec_toggle_ofNat (c : Channel) (s : State) :
    exec (.toggle (BitVec.ofNat 2 c.val)) s = whenIdle s (whenNoScan s (.next (togglePower c s))) :=
  withChannel_ofNat c _

/-- Settles O11: each of the five operations is its effect behind the guards of R236 and R146. -/
theorem scanGate : Obligations.ScanGate := by
  intro s c v hidle hscan
  have hrefused (k : Answer) : whenIdle s (whenNoScan s k) = .refused .scanInProgress :=
    whenIdle_whenNoScan_scanning hidle hscan
  exact ⟨(exec_orbSet_ofNat c v s).trans (hrefused _), (exec_toggle_ofNat c s).trans (hrefused _),
    hrefused _, hrefused _, hrefused _⟩

/-! A whole scan -/

/-- A turn of the loop: lines S1.i and S2.i (R138). -/
def scanTurn (i : ButtonId) (s : State) : State := scanSample i (scanSend i s)

/-- The lines of SCAN after S0 in their order: four turns of the loop, then S3 and S4 (R138). -/
def wholeScan (s : State) : State :=
  scanEnd (scanRestore (scanTurn 3 (scanTurn 2 (scanTurn 1 (scanTurn 0 s)))))

/-- A scan in progress has line S1.i next, or S3 where `i` is 4 (R138). -/
structure AtTurn (i : Fin 5) (u : State) : Prop where
  context : ScanContext u
  active : u.scanActive = true
  index : u.scanI = i
  unsent : u.scanSent = false

theorem atTurn_scanStart (hc : ScanContext s) : AtTurn 0 (scanStart s) := ⟨hc, rfl, rfl, rfl⟩

/-- A turn leads to the next one, whatever its sample was (R139). -/
theorem AtTurn.next {i : ButtonId} (h : AtTurn i.castSucc s) : AtTurn i.succ (scanTurn i s) :=
  ⟨h.context, h.active, rfl, rfl⟩

theorem AtTurn.stepsTo_scanTurn {i : ButtonId} (h : AtTurn i.castSucc s) : stepsTo 2 s (scanTurn i s) :=
  stepsTo_scan_turn i h.context h.active h.index h.unsent

theorem AtTurn.stepsTo_close (h : AtTurn 4 s) : stepsTo 2 s (scanEnd (scanRestore s)) :=
  stepsTo_scan_close h.context h.active h.index h.unsent

/-- With line S0 run, ten steps run the other lines. -/
theorem AtTurn.stepsTo_wholeScan (h0 : AtTurn 0 s) : stepsTo 10 s (wholeScan s) := by
  have h1 := h0.next (i := 0)
  have h2 := h1.next (i := 1)
  have h3 := h2.next (i := 2)
  have h4 := h3.next (i := 3)
  have hloop := stepsTo_add (stepsTo_add (stepsTo_add (h0.stepsTo_scanTurn (i := 0)) (h1.stepsTo_scanTurn (i := 1)))
    (h2.stepsTo_scanTurn (i := 2))) (h3.stepsTo_scanTurn (i := 3))
  exact stepsTo_add hloop h4.stepsTo_close

theorem btnAt_scanTurn (i : ButtonId) (s : State) (k : Nat) : btnAt (scanTurn i s) k = btnAt s (k + 1) :=
  btnAt_dropBtn s k

/-- In an ascending scan the last asserted sample decides (R141). -/
theorem wholeScan_hit (s : State) : (wholeScan (scanStart s)).hit = highest fun i => btnAt s i.val := by
  calc (wholeScan (scanStart s)).hit
      = recordHit (btnAt (scanTurn 2 (scanTurn 1 (scanTurn 0 (scanStart s)))) 0) 3
          (recordHit (btnAt (scanTurn 1 (scanTurn 0 (scanStart s))) 0) 2
            (recordHit (btnAt (scanTurn 0 (scanStart s)) 0) 1
              (recordHit (btnAt (scanStart s) 0) 0 none))) := rfl
    _ = highest fun i => btnAt s i.val := by simp only [btnAt_scanTurn]; rfl

/-- A whole scan as one state (R138 to R143). -/
theorem wholeScan_eq (s : State) :
    wholeScan (scanStart s) =
      { s with
        outLatch := s.orb
        scanActive := false
        scanI := 0
        scanSent := false
        hit := highest fun i => btnAt s i.val
        trace := s.trace ++ [.tx (candidate 0 s.orb), .tx (candidate 1 s.orb), .tx (candidate 2 s.orb),
          .tx (candidate 3 s.orb), .tx s.orb]
        result := if s.ctx = .idle then .button (highest fun i => btnAt s i.val) else s.result
        btnIn := s.btnIn.drop 4
        btnTaken := s.btnTaken + 4 } := by
  rw [← wholeScan_hit]
  have htail : s.btnIn.tail.tail.tail.tail = s.btnIn.drop 4 := by simp only [← List.drop_one, List.drop_drop]
  simp [htail, wholeScan, scanTurn, scanEnd, scanRestore, scanSample, scanSend, scanStart, dropBtn, tx, emit]

/-- Settles O17: the ten steps after S0 lead to the whole scan as one state. -/
theorem scanCompletes : Obligations.ScanCompletes := by
  intro s ⟨hidle, hqst, hoff⟩
  refine ⟨scanStart s, execScan_next.mpr ⟨hidle, hoff, rfl⟩, ?_⟩
  have hstart : AtTurn 0 (scanStart s) := atTurn_scanStart (.inr ⟨hidle, hqst⟩)
  simpa [wholeScan_eq, hidle, hoff, candidate, scanPat] using hstart.stepsTo_wholeScan

end Sys2Proof.Machine
end

section
/-!
SUPPORT. QDEC sample by sample and as a whole call (spec/42_quadrature_decoder.md R157 to R168): the entry sample, the
exit conditions of the waits, the hang, and the direction a call returns. The two directions differ in the entry sample
and the two waits only, so each fact is proved once, of a `WaitPath`.
-/

namespace Sys2Proof.Machine

variable {s : State} {d : Rotation} {ab : Bool × Bool} {q q₁ q₂ : QState} {k m n : Nat}

/-! Where a decode runs -/

/-- A wait is a decode in progress, whoever called it. -/
theorem decodeContext_of_wait (hc : s.ctx = .idle ∨ s.ctx = .hEnc) (hq : s.qst ≠ .idle) : DecodeContext s :=
  hc.symm.imp_right fun hidle => ⟨hidle, hq⟩

/-- A test bench is handed the result (R104). -/
theorem decoderReturn_testBench (e : Rotation) (hidle : s.ctx = .idle) :
    decoderReturn (some e) s = handBack (.rotation e) s := by
  simp [decoderReturn, hidle]

theorem decoderReturn_qst (e : Rotation) (s : State) : (decoderReturn (some e) s).qst = s.qst := by
  simp only [decoderReturn]
  split <;> simp

/-- Settles O20: the guards let QDEC take its entry sample, and each pair of levels is one case of R158. -/
theorem qdecEntry : Obligations.QdecEntry := by
  intro s hidle hqst
  have hexec {t : State} (h : decoderLine s = t) : exec .qdec s = .next t := execQdec_next.mpr ⟨hidle, hqst, h.symm⟩
  refine ⟨fun hcw => hexec (decoderLine_entry_cw hqst hcw), fun hccw => hexec (decoderLine_entry_ccw hqst hccw),
    fun hnone => hexec ?_⟩
  exact (decoderLine_entry_none hqst hnone).trans (decoderReturn_testBench (s := dropEnc s) .none hidle)

/-- Settles O23: no sample ever ends the wait, so each of the `n` steps takes one and changes nothing else. -/
theorem stuckWaitNeverEnds : Obligations.StuckWaitNeverEnds :=
  fun _ hc hq hstuck _ => stepsTo_wait (decodeContext_of_wait hc hq) hq fun k _ => hstuck k

/-! The two paths of the decoder -/

/-- The direction QDEC returns, with the entry sample that selects its path and the two waits of it (R157). -/
inductive WaitPath : Rotation → Bool × Bool → QState → QState → Prop
  | clockwise : WaitPath .clockwise (true, false) .cwWaitCombo .waitLineBRelease
  | counterClockwise : WaitPath .counterClockwise (false, true) .ccwWaitCombo .waitLineARelease

theorem WaitPath.first_ne_idle (p : WaitPath d ab q₁ q₂) : q₁ ≠ .idle := by cases p <;> decide

theorem WaitPath.second_ne_idle (p : WaitPath d ab q₁ q₂) : q₂ ≠ .idle := by cases p <;> decide

/-- A first wait lasts while the entry combination does (R160). -/
theorem WaitPath.first_ends (p : WaitPath d ab q₁ q₂) (x : Bool × Bool) : waitEnds q₁ x = decide (x ≠ ab) := by
  cases p <;> revert x <;> decide

theorem WaitPath.decoderLine_entry (p : WaitPath d ab q₁ q₂) (hq : s.qst = .idle) (h : encAt s 0 = ab) :
    decoderLine s = { dropEnc s with qst := q₁ } := by
  cases p with
  | clockwise => exact decoderLine_entry_cw hq h
  | counterClockwise => exact decoderLine_entry_ccw hq h

theorem WaitPath.decoderLine_first (p : WaitPath d ab q₁ q₂) (hq : s.qst = q₁) (h : waitEnds q₁ (encAt s 0) = true) :
    decoderLine s = { dropEnc s with qst := q₂ } := by
  rw [← hq] at h
  cases p with
  | clockwise => exact decoderLine_cw_first hq h
  | counterClockwise => exact decoderLine_ccw_first hq h

theorem WaitPath.decoderLine_second (p : WaitPath d ab q₁ q₂) (hq : s.qst = q₂) (h : waitEnds q₂ (encAt s 0) = true) :
    decoderLine s = decoderReturn (some d) { dropEnc s with qst := .idle } := by
  rw [← hq] at h
  cases p with
  | clockwise => exact decoderLine_cw_second hq h
  | counterClockwise => exact decoderLine_ccw_second hq h

/-! One sample of a wait -/

/-- A sample that does not end the wait is a step that only takes it (R160). -/
theorem step_wait_continues (hc : s.ctx = .idle ∨ s.ctx = .hEnc) (hq : s.qst ≠ .idle)
    (h : waitEnds s.qst (encAt s 0) = false) : step s = .next (dropEnc s) := by
  rw [step_decoding (decodeContext_of_wait hc hq), decoderLine_stay hq h]

theorem WaitPath.step_first (p : WaitPath d ab q₁ q₂) (hc : s.ctx = .idle ∨ s.ctx = .hEnc) (hq : s.qst = q₁) :
    (encAt s 0 = ab → step s = .next (dropEnc s)) ∧
    (encAt s 0 ≠ ab → step s = .next { dropEnc s with qst := q₂ }) := by
  have hne : s.qst ≠ .idle := hq ▸ p.first_ne_idle
  refine ⟨fun h => step_wait_continues hc hne ?_, fun h => ?_⟩
  · simp [hq, p.first_ends, h]
  · rw [step_decoding (decodeContext_of_wait hc hne), p.decoderLine_first hq (by simp [p.first_ends, h])]

theorem WaitPath.step_second (p : WaitPath d ab q₁ q₂) (hc : s.ctx = .idle ∨ s.ctx = .hEnc) (hq : s.qst = q₂) :
    (waitEnds q₂ (encAt s 0) = false → step s = .next (dropEnc s)) ∧
    (waitEnds q₂ (encAt s 0) = true → ∃ t, step s = .next t ∧ t.qst = .idle ∧ t.ctx = .idle) := by
  have hne : s.qst ≠ .idle := hq ▸ p.second_ne_idle
  refine ⟨fun h => step_wait_continues hc hne (hq ▸ h), fun h => ⟨_, step_decoding (decodeContext_of_wait hc hne), ?_⟩⟩
  rw [p.decoderLine_second hq h]
  exact ⟨decoderReturn_qst _ _, decoderReturn_ctx _ hc⟩

/-- Settles O21: a first wait ends when the entry combination clears, a second one when its line deasserts. -/
theorem waitExitConditions : Obligations.WaitExitConditions := by
  intro s hc
  refine ⟨WaitPath.clockwise.step_first hc, fun hq => ?_, WaitPath.counterClockwise.step_first hc, fun hq => ?_⟩
  · simpa [waitEnds, dropEnc] using WaitPath.clockwise.step_second hc hq
  · simpa [waitEnds, dropEnc] using WaitPath.counterClockwise.step_second hc hq

/-! A whole call -/

/-- QST is `q` after `n` samples since `s`, and nothing else has changed. -/
def inWait (q : QState) (n : Nat) (s : State) : State := { skipEnc n s with qst := q }

theorem dropEnc_inWait (q q' : QState) (n : Nat) (s : State) :
    { dropEnc (inWait q n s) with qst := q' } = inWait q' (n + 1) s := by
  simp [inWait, skipEnc, dropEnc, Nat.add_assoc]

theorem encAt_inWait (q : QState) (n k : Nat) (s : State) : encAt (inWait q n s) k = encAt s (n + k) :=
  encAt_skipEnc n k s

/-- `k` samples that continue a wait are `k` steps, and one more takes the sample after them. -/
theorem stepsTo_inWait (hc : s.ctx = .idle ∨ s.ctx = .hEnc) (hq : q ≠ .idle)
    (h : ∀ j < k, waitEnds q (encAt s (n + j)) = false) :
    stepsTo (k + 1) (inWait q n s) (decoderLine (inWait q (k + n) s)) := by
  have hd (i : Nat) : DecodeContext (inWait q i s) := decodeContext_of_wait hc hq
  have hwait : stepsTo k (inWait q n s) (skipEnc k (inWait q n s)) :=
    stepsTo_wait (hd n) hq fun j hj => by rw [encAt_inWait]; exact h j hj
  have hlast : skipEnc k (inWait q n s) = inWait q (k + n) s := by simp [inWait, skipEnc, Nat.add_assoc, Nat.add_comm k]
  rw [hlast] at hwait
  exact stepsTo_add hwait ⟨_, step_decoding (hd (k + n)), rfl⟩

/-- The samples of a whole call on a path: the entry sample, `k` that continue the first wait and one that ends it, `m`
that continue the second and one that ends it (R157, R160). -/
structure WaitPath.Samples (ab : Bool × Bool) (q₂ : QState) (k m : Nat) (s : State) : Prop where
  entry : encAt s 0 = ab
  first_continues : ∀ j, 1 ≤ j → j ≤ k → encAt s j = ab
  first_ends : encAt s (k + 1) ≠ ab
  second_continues : ∀ j, k + 2 ≤ j → j ≤ k + m + 1 → waitEnds q₂ (encAt s j) = false
  second_ends : waitEnds q₂ (encAt s (k + m + 2)) = true

/-- After its entry sample a call runs through both waits and returns the direction of its path (R161, R168). -/
theorem WaitPath.run (p : WaitPath d ab q₁ q₂) (hc : s.ctx = .idle ∨ s.ctx = .hEnc) (hqst : s.qst = .idle)
    (hs : WaitPath.Samples ab q₂ k m s) :
    stepsTo (k + m + 2) (decoderLine s) (decoderReturn (some d) (skipEnc (k + m + 3) s)) := by
  have hentry : decoderLine s = inWait q₁ 1 s := by
    rw [p.decoderLine_entry hqst hs.entry]; simp [inWait, skipEnc, dropEnc]
  have hfirst : decoderLine (inWait q₁ (k + 1) s) = inWait q₂ (k + 2) s :=
    (p.decoderLine_first rfl (by simp [encAt_inWait, p.first_ends, hs.first_ends])).trans (dropEnc_inWait ..)
  have hsecond : decoderLine (inWait q₂ (k + m + 2) s) = decoderReturn (some d) (inWait .idle (k + m + 3) s) :=
    (p.decoderLine_second rfl (by simpa [encAt_inWait] using hs.second_ends)).trans (by rw [dropEnc_inWait])
  have hdone : inWait .idle (k + m + 3) s = skipEnc (k + m + 3) s := by simp [inWait, skipEnc, ← hqst]
  have hrun₁ : stepsTo (k + 1) (inWait q₁ 1 s) (decoderLine (inWait q₁ (k + 1) s)) :=
    stepsTo_inWait hc p.first_ne_idle fun j hj => by
      simp [p.first_ends, hs.first_continues (1 + j) (by omega) (by omega)]
  have hrun₂ : stepsTo (m + 1) (inWait q₂ (k + 2) s) (decoderLine (inWait q₂ (m + (k + 2)) s)) :=
    stepsTo_inWait hc p.second_ne_idle fun j hj => hs.second_continues _ (by omega) (by omega)
  rw [hfirst] at hrun₁
  rw [show m + (k + 2) = k + m + 2 by omega, hsecond, hdone] at hrun₂
  rw [hentry, show k + m + 2 = (k + 1) + (m + 1) by omega]
  exact stepsTo_add hrun₁ hrun₂

/-- A test bench's QDEC hands back the direction of its path, and nothing else has changed but the samples taken. -/
theorem WaitPath.qdec (p : WaitPath d ab q₁ q₂) (hidle : s.ctx = .idle) (hqst : s.qst = .idle)
    (hs : WaitPath.Samples ab q₂ k m s) :
    ∃ t, exec .qdec s = .next t ∧ stepsTo (k + m + 2) t (handBack (.rotation d) (skipEnc (k + m + 3) s)) := by
  refine ⟨decoderLine s, execQdec_next.mpr ⟨hidle, hqst, rfl⟩, ?_⟩
  rw [← decoderReturn_testBench (s := skipEnc (k + m + 3) s) d hidle]
  exact p.run (.inl hidle) hqst hs

/-- Settles O22: the samples the statement lists are those of a whole call, on each of the two paths. -/
theorem qdecReturnsDirection : Obligations.QdecReturnsDirection := by
  intro s k m hidle hqst
  refine ⟨fun hentry hkeep₁ hend₁ hkeep₂ hend₂ => ?_, fun hentry hkeep₁ hend₁ hkeep₂ hend₂ => ?_⟩
  · exact WaitPath.clockwise.qdec hidle hqst
      ⟨hentry, hkeep₁, hend₁, fun j h h' => congrArg not (hkeep₂ j h h'), congrArg not hend₂⟩
  · exact WaitPath.counterClockwise.qdec hidle hqst
      ⟨hentry, hkeep₁, hend₁, fun j h h' => congrArg not (hkeep₂ j h h'), congrArg not hend₂⟩

end Sys2Proof.Machine
end

section
/-!
SUPPORT. The Regulator Bank and the update synchronizer (spec/43_regulator_bank_pwm.md R182 to R194): SELNEXT's cycle, the
flags and the compare register after TOGGLE and after a row of TOGGLEs, and ADJ at and between the bounds.
-/

namespace Sys2Proof.Machine

variable {s t : State}

/-! SELNEXT -/

/-- Three turns of the selection give it back (R182). -/
theorem nextChannel_three (c : Channel) : nextChannel (nextChannel (nextChannel c)) = c := by
  revert c; decide

theorem selNext_three (s : State) : selNext (selNext (selNext s)) = s := by
  simp [selNext, nextChannel_three]

/-- Settles O25: SELNEXT answers `selNext`, whose index is the successor mod 3. -/
theorem selnextAdvances : Obligations.SelnextAdvances := by
  refine ⟨by decide, fun s hidle => ?_, fun s t u v ht hu hv => ?_⟩
  · exact ⟨nextChannel s.sel, execSelnext_next.mpr ⟨hidle, rfl⟩, nextChannel_val s.sel⟩
  · obtain ⟨-, rfl⟩ := execSelnext_next.mp ht
    obtain ⟨-, rfl⟩ := execSelnext_next.mp hu
    obtain ⟨-, rfl⟩ := execSelnext_next.mp hv
    exact selNext_three s

/-! TOGGLE -/

/-- Inverting EN[c] leaves the other flags (R186 step T1). -/
theorem getElem_set_flipped (en : Vector Bool 3) (c d : Channel) :
    (en.set c (!en[c]))[d] = if d = c then !en[d] else en[d] := by
  by_cases hdc : d = c
  · subst hdc
    simp
  · have hne : c.val ≠ d.val := fun h => hdc (Fin.ext h.symm)
    simp [hdc, hne]

/-- TOGGLE c inverts EN[c] and no other flag (R186, R187). -/
theorem togglePower_en_getElem (c d : Channel) (s : State) :
    (togglePower c s).en[d] = if d = c then !s.en[d] else s.en[d] := by
  rw [togglePower_eq]
  exact getElem_set_flipped s.en c d

theorem togglePower_en_same (c : Channel) (s : State) : (togglePower c s).en[c] = !s.en[c] := by
  rw [togglePower_en_getElem, if_pos rfl]

theorem togglePower_en_other {c d : Channel} (h : d ≠ c) (s : State) : (togglePower c s).en[d] = s.en[d] := by
  rw [togglePower_en_getElem, if_neg h]

/-- A fixed channel does not reach the compare register (R187). -/
theorem togglePower_pwmCmp_fixed {c : Channel} (h : c ≠ adjCh) (s : State) : (togglePower c s).pwmCmp = s.pwmCmp := by
  rw [togglePower_eq]
  exact if_neg h

/-- The compare register follows the adjustable channel's new flag (R186 step T3). -/
theorem togglePower_pwmCmp_adjustable (s : State) :
    (togglePower adjCh s).pwmCmp = if (togglePower adjCh s).en[adjCh] then s.duty else 0 := by
  rw [togglePower_en_same, togglePower_eq]
  cases s.en[adjCh] <;> rfl

/-- Settles O26: with its guards open TOGGLE answers `togglePower`; channel 3 and a scan in progress meet the guards. -/
theorem togglePowersChannel : Obligations.TogglePowersChannel := by
  obtain ⟨-, -, -, -, -, -, hreserved⟩ := reservedOperandsRefused
  refine ⟨by decide, fun s c hidle hscan => ?_, fun s => (hreserved s).2.1, fun s c hidle hscan => ?_⟩
  · refine ⟨s.en.set c (!s.en[c]), assignEnable c (!s.en[c]) s.orb, if s.en[c] then 0 else s.duty, ?_,
      getElem_set_flipped s.en c, assignEnable_getLsbD c (!s.en[c]) s.orb, ?_⟩
    · rw [exec_toggle_ofNat, whenIdle_idle hidle, whenNoScan_off hscan, togglePower_eq]
      by_cases hc : c = 0 <;> simp [hc, adjCh]
    · rw [getElem_set_flipped, if_pos rfl]
      cases s.en[c] <;> rfl
  · rw [exec_toggle_ofNat, whenIdle_whenNoScan_scanning hidle hscan]

/-- What n TOGGLE c in a row make of `s` (R187). -/
structure ToggledTimes (c : Channel) (n : Nat) (s t : State) : Prop where
  parity : t.en[c] = (s.en[c] ^^ decide (n % 2 = 1))
  others : ∀ d : Channel, d ≠ c → t.en[d] = s.en[d]
  duty : t.duty = s.duty
  sel : t.sel = s.sel
  fixed : c ≠ adjCh → t.pwmCmp = s.pwmCmp
  adjustable : c = adjCh → 0 < n → t.pwmCmp = if t.en[c] then t.duty else 0

theorem ToggledTimes.zero (c : Channel) (s : State) : ToggledTimes c 0 s s where
  parity := by simp
  others _ _ := rfl
  duty := rfl
  sel := rfl
  fixed _ := rfl
  adjustable _ h := absurd h (Nat.lt_irrefl 0)

/-- One more TOGGLE. -/
theorem ToggledTimes.succ {c : Channel} {n : Nat} (h : ToggledTimes c n s t) :
    ToggledTimes c (n + 1) s (togglePower c t) where
  parity := by
    have hflip : decide ((n + 1) % 2 = 1) = !decide (n % 2 = 1) := by
      rw [← decide_not, decide_eq_decide]
      omega
    rw [togglePower_en_same, h.parity, hflip, Bool.xor_not]
  others d hd := (togglePower_en_other hd t).trans (h.others d hd)
  duty := (togglePower_duty t c).trans h.duty
  sel := (togglePower_sel t c).trans h.sel
  fixed hc := (togglePower_pwmCmp_fixed hc t).trans (h.fixed hc)
  adjustable hc _ := by
    subst hc
    rw [togglePower_pwmCmp_adjustable, togglePower_duty]

theorem toggledTimes_run {c : Channel} {run : Nat → State} {n : Nat}
    (hrun : ∀ k < n, exec (.toggle (BitVec.ofNat 2 c)) (run k) = .next (run (k + 1))) :
    ToggledTimes c n (run 0) (run n) := by
  induction n with
  | zero => exact .zero c (run 0)
  | succ n ih =>
    obtain ⟨d, hd, -, -, hnext⟩ := execToggle_next.mp (hrun n n.lt_succ_self)
    obtain rfl : c = d := Option.some.inj ((channelOf_ofNat c).symm.trans hd)
    rw [hnext]
    exact (ih fun k hk => hrun k (hk.trans n.lt_succ_self)).succ

/-- Settles O27: the laws hold of no TOGGLE at all, and one more TOGGLE keeps them. -/
theorem toggleParity : Obligations.ToggleParity := by
  intro c run n hrun
  obtain ⟨hparity, hothers, hduty, hsel, hfixed, hadjustable⟩ := toggledTimes_run hrun
  exact ⟨hparity, hothers, hduty, hsel, hfixed, hadjustable⟩

/-! ADJ -/

/-- ADJ's new DUTY is one away, held at the bounds (R191). -/
theorem adjustDuty_val (inc : Bool) (d : Duty) :
    ((adjustDuty inc d).val : Int) = if inc then min 100 ((d.val : Int) + 1) else max 0 ((d.val : Int) - 1) := by
  cases inc
  · have hval : (adjustDuty false d).val = d.val - 1 := decDuty_val d
    rw [if_neg Bool.false_ne_true, hval]
    omega
  · have hval : (adjustDuty true d).val = min 100 (d.val + 1) := incDuty_val d
    rw [if_pos rfl, hval]
    omega

/-- Settles O28: on the adjustable channel ADJ writes the saturated duty, and its flag decides whether PWM_CMP follows. -/
theorem adjustSaturates : Obligations.AdjustSaturates := by
  intro s inc hidle hsel
  refine ⟨adjustDuty inc s.duty, adjustDuty_val inc s.duty, fun hen => ?_, fun hen => ?_⟩
  · exact execAdj_next.mpr ⟨hidle, by simp [adjust_selected inc s hsel, show s.en[adjCh] = true from hen]⟩
  · exact execAdj_next.mpr ⟨hidle, by simp [adjust_selected inc s hsel, show s.en[adjCh] = false from hen]⟩

/-- Settles O29: on a fixed channel ADJ's effect is none. -/
theorem adjustFixedIgnored : Obligations.AdjustFixedIgnored :=
  fun s inc hidle hsel => execAdj_next.mpr ⟨hidle, (adjust_fixed inc s hsel).symm⟩

end Sys2Proof.Machine
end

section
/-!
SUPPORT. The Control Dispatcher's transition table (spec/44_control_dispatcher.md R206 to R215): what EV.BTN and EV.ROT
answer at an operation boundary, and EV.ROT's effect on the adjustable and on a fixed channel.
-/

namespace Sys2Proof.Machine

variable {s : State}

/-! EV.BTN -/

/-- At IDLE every button but 3, which contains TOGGLE, is free of the scan guard (R146, R206). -/
theorem exec_evBtn_unguarded (hidle : s.ctx = .idle) {b : ButtonId} (hb : b ≠ 3) :
    exec (.evBtn b) s = .next (buttonEvent b s) :=
  execEvBtn_next.mpr ⟨hidle, fun h => absurd h hb, rfl⟩

/-- Settles O33: neither button is guarded by SCAN_ACTIVE, and their effects are ACK and nothing. -/
theorem placeholderButtons : Obligations.PlaceholderButtons := fun _ hidle =>
  ⟨exec_evBtn_unguarded hidle (b := 0) (by decide), exec_evBtn_unguarded hidle (b := 2) (by decide)⟩

/-- Settles O34: the RENDER of each button follows the effect of SELNEXT and of TOGGLE SEL. -/
theorem selectAndPowerButtons : Obligations.SelectAndPowerButtons := by
  refine fun s hidle => ⟨⟨selNext s, ?_, ?_⟩, fun hscan => ⟨togglePower s.sel s, ?_, ?_⟩⟩
  · exact execSelnext_next.mpr ⟨hidle, rfl⟩
  · exact exec_evBtn_unguarded hidle (b := 1) (by decide)
  · exact execToggle_next.mpr ⟨s.sel, channelOf_ofNat s.sel, hidle, hscan, rfl⟩
  · exact execEvBtn_next.mpr ⟨hidle, fun _ => hscan, rfl⟩

/-! EV.ROT -/

/-- At IDLE an encoded RotationEvent is accepted (R96, R212). -/
theorem exec_evRot_rotationBits (hidle : s.ctx = .idle) (d : Rotation) :
    exec (.evRot (rotationBits d)) s = .next (rotationEvent d s) :=
  execEvRot_next.mpr ⟨d, rotationOf_rotationBits d, hidle, rfl⟩

/-- Every rotation is ignored while a fixed channel is selected (R213). -/
theorem rotationEvent_fixed (d : Rotation) (h : s.sel ≠ adjCh) : rotationEvent d s = s := by
  cases d with
  | none => rfl
  | clockwise => exact if_neg h
  | counterClockwise => exact if_neg h

theorem rotationEvent_clockwise (h : s.sel = adjCh) : rotationEvent .clockwise s = render (adjust true s) := if_pos h

theorem rotationEvent_counterClockwise (h : s.sel = adjCh) :
    rotationEvent .counterClockwise s = render (adjust false s) := if_pos h

/-- Settles O35: None has no effect on any channel, and no rotation has one on a fixed channel. -/
theorem ignoredRotations : Obligations.IgnoredRotations := by
  intro s hidle
  have ignored (hsel : s.sel ≠ adjCh) (d : Rotation) : exec (.evRot (rotationBits d)) s = .next s := by
    rw [exec_evRot_rotationBits hidle, rotationEvent_fixed d hsel]
  exact ⟨exec_evRot_rotationBits hidle .none, fun hsel => ⟨ignored hsel .clockwise, ignored hsel .counterClockwise⟩⟩

/-- Settles O36: on the adjustable channel each direction's effect is its ADJ's with RENDER after it. -/
theorem rotationAdjusts : Obligations.RotationAdjusts := by
  intro s hidle hsel
  have hadj (inc : Bool) : exec (.adj inc) s = .next (adjust inc s) := execAdj_next.mpr ⟨hidle, rfl⟩
  refine ⟨⟨adjust true s, hadj true, ?_⟩, ⟨adjust false s, hadj false, ?_⟩⟩
  · exact (exec_evRot_rotationBits hidle .clockwise).trans (congrArg _ (rotationEvent_clockwise hsel))
  · exact (exec_evRot_rotationBits hidle .counterClockwise).trans (congrArg _ (rotationEvent_counterClockwise hsel))

end Sys2Proof.Machine
end

section
/-!
SUPPORT. Where an operation can start (spec/60_exceptions.md R232, R236): the refusals of the context guards. What
starts at an operation boundary (R238, R248): the next command lined up, else what power-up or the environment starts.
-/

namespace Sys2Proof.Machine

variable {s t : State} {i : Instr} {k : Answer}

/-! The context guards -/

theorem whenIdle_boot (h : s.ctx = .boot) : whenIdle s k = .refused .notBooted := by simp [whenIdle, h]

theorem whenIdle_handler (h : s.ctx = .hBtn ∨ s.ctx = .hEnc) : whenIdle s k = .refused .notIdle := by
  rcases h with h | h <;> simp [whenIdle, h]

theorem whenBoot_not_boot (h : s.ctx ≠ .boot) : whenBoot s k = .refused .notIdle := by
  cases hc : s.ctx <;> simp_all [whenBoot]

theorem withChannel_of_channelOf {n : BitVec 2} {c : Channel} (h : channelOf n = some c) (f : Channel → Answer) :
    withChannel n f = f c := by
  simp [withChannel, h]

theorem withRotation_of_rotationOf {n : BitVec 2} {d : Rotation} (h : rotationOf n = some d) (f : Rotation → Answer) :
    withRotation n f = f d := by
  simp [withRotation, h]

/-- Once its operand is legal, the first thing an operation other than INIT asks for is CTX = IDLE (R232, R236). -/
theorem exec_whenIdle (hwf : i.wellFormed = true) (hi : i ≠ .init) (s : State) : ∃ k, exec i s = whenIdle s k := by
  cases i with
  | init => exact absurd rfl hi
  | orbSet n v =>
    obtain ⟨c, hc⟩ := channelOf_eq_some hwf
    exact ⟨_, withChannel_of_channelOf hc _⟩
  | toggle n =>
    obtain ⟨c, hc⟩ := channelOf_eq_some hwf
    exact ⟨_, withChannel_of_channelOf hc _⟩
  | evRot n =>
    obtain ⟨d, hd⟩ := rotationOf_eq_some hwf
    exact ⟨_, withRotation_of_rotationOf hd _⟩
  | orbRd | scan | qdec | selnext | adj | evBtn | irqBtn | irqEnc | nop => exact ⟨_, rfl⟩

/-- Settles O10: every operation but INIT is behind the guard for IDLE, and INIT is behind the guard for BOOT. -/
theorem contextGuards : Obligations.ContextGuards := by
  refine ⟨fun i s hwf hi => ?_, fun s hboot => whenBoot_not_boot hboot⟩
  obtain ⟨k, hexec⟩ := exec_whenIdle hwf hi s
  exact ⟨fun hboot => hexec.trans (whenIdle_boot hboot), fun hhandler => hexec.trans (whenIdle_handler hhandler)⟩

/-! The start -/

theorem step_of_fetch (hs : Startable s) (hf : fetch s = (.ok i, t)) : step s = exec i t := by
  rw [step_boundary hs, hf, start]

/-- With nothing lined up, power-up starts INIT (R248, entry 9). -/
theorem fetch_empty_boot (hempty : s.cmds = []) (hboot : s.ctx = .boot) : fetch s = (.ok .init, s) := by
  simp [fetch, hempty, hboot]

/-- With nothing lined up, an idle turn starts what the environment chooses (R238, entry 2). -/
theorem fetch_empty_idle (hempty : s.cmds = []) (hidle : s.ctx = .idle) :
    fetch s = (.ok (handlerOf (Config.envEvent s.idleTurns)), { s with idleTurns := s.idleTurns + 1 }) := by
  simp [fetch, hempty, hidle]

/-- Settles O7: at a boundary the step fetches the byte lined up and runs what it decodes to. -/
theorem stepRunsCommand : Obligations.StepRunsCommand :=
  fun _ _ _ _ hs hcmds hd => step_of_fetch hs (by rw [fetch_cons hcmds, hd])

/-- Settles O9: both kinds of boundary are startable, and the fetch at each finds the queue empty. -/
theorem emptyQueueStep : Obligations.EmptyQueueStep := fun _ hempty =>
  ⟨fun hboot => step_of_fetch (.inl hboot) (fetch_empty_boot hempty hboot),
    fun hready => step_of_fetch (.inr hready) (fetch_empty_idle hempty hready.1)⟩

/-- Settles O40: the one guard of NOP holds at IDLE. -/
theorem nopDoesNothing : Obligations.NopDoesNothing := ⟨rfl, fun _ hidle => execNop_next.mpr ⟨hidle, rfl⟩⟩

end Sys2Proof.Machine
end

section
/-!
SUPPORT. The handlers (spec/60_exceptions.md R240 to R243). A handler dispatches its event in its own context and then
returns; the event reads no CTX, so this is the same as to return first and have the event at IDLE.
-/

namespace Sys2Proof.Machine

variable {s : State} {d : Rotation} {ab : Bool × Bool} {q₁ q₂ : QState} {k m : Nat}

/-! The events commute with the return -/

theorem returnToIdle_of_idle (h : s.ctx = .idle) : returnToIdle s = s := by
  simp [returnToIdle, ← h]

theorem returnToIdle_togglePower (c : Channel) (s : State) :
    returnToIdle (togglePower c s) = togglePower c (returnToIdle s) := by
  rw [togglePower_eq, togglePower_eq]; rfl

theorem returnToIdle_adjust (inc : Bool) (s : State) : returnToIdle (adjust inc s) = adjust inc (returnToIdle s) := by
  by_cases hsel : s.sel = adjCh
  · rw [adjust_selected inc s hsel, adjust_selected inc (returnToIdle s) hsel]; rfl
  · rw [adjust_fixed inc s hsel, adjust_fixed inc (returnToIdle s) hsel]

theorem returnToIdle_buttonEvent (b : ButtonId) (s : State) :
    returnToIdle (buttonEvent b s) = buttonEvent b (returnToIdle s) :=
  match b with
  | 0 | 1 | 2 => rfl
  | 3 => congrArg render (returnToIdle_togglePower s.sel s)

theorem returnToIdle_rotationEvent (d : Rotation) (s : State) :
    returnToIdle (rotationEvent d s) = rotationEvent d (returnToIdle s) := by
  by_cases hsel : s.sel = adjCh
  · have hadj (inc : Bool) : returnToIdle (render (adjust inc s)) = render (adjust inc (returnToIdle s)) :=
      congrArg render (returnToIdle_adjust inc s)
    cases d with
    | none => rfl
    | clockwise => rw [rotationEvent_clockwise hsel, hadj, rotationEvent_clockwise (s := returnToIdle s) hsel]
    | counterClockwise =>
      rw [rotationEvent_counterClockwise hsel, hadj, rotationEvent_counterClockwise (s := returnToIdle s) hsel]
  · rw [rotationEvent_fixed d hsel, rotationEvent_fixed (s := returnToIdle s) d hsel]

/-! IRQ.BTN -/

theorem step_dispatching (hctx : s.ctx = .hBtn) (hoff : s.scanActive = false) :
    step s = .next (buttonHandlerEnd s) := by
  have hdispatch : activity s = .dispatching := by simp [activity, hctx, hoff]
  simp [step, hdispatch, runLine]

/-- The handler's end is what EV.BTN of the hit answers at IDLE, and the return alone on None (R240, R243). -/
theorem buttonHandlerEnd_dispatches (hoff : s.scanActive = false) :
    (∀ b, s.hit = some b → exec (.evBtn b) (returnToIdle s) = .next (buttonHandlerEnd s)) ∧
    (s.hit = none → buttonHandlerEnd s = returnToIdle s) := by
  refine ⟨fun b hhit => execEvBtn_next.mpr ⟨rfl, fun _ => hoff, ?_⟩, fun hhit => ?_⟩
  · simp [buttonHandlerEnd, hhit, returnToIdle_buttonEvent]
  · simp [buttonHandlerEnd, hhit]

/-- The ten lines of the scan after S0, and the dispatch (R240). -/
theorem stepsTo_irqBtn (s : State) :
    stepsTo 11 (scanStart (enterHandler .hBtn s))
      (buttonHandlerEnd (wholeScan (scanStart (enterHandler .hBtn s)))) := by
  have hstart : AtTurn 0 (scanStart (enterHandler .hBtn s)) := atTurn_scanStart (.inl rfl)
  exact stepsTo_add (n := 1) hstart.stepsTo_wholeScan ⟨_, step_dispatching rfl rfl, rfl⟩

/-- Settles O37: the handler's run ends in its dispatch, and the return takes the state its scan left to the one the
statement writes out. -/
theorem buttonHandlerCompletes : Obligations.ButtonHandlerCompletes := by
  intro s ⟨hidle, _, hoff⟩
  refine ⟨_, _, execIrqBtn_next.mpr ⟨hidle, hoff, rfl⟩, rfl, stepsTo_irqBtn s, ?_⟩
  intro scanned
  have hscanned : returnToIdle (wholeScan (scanStart (enterHandler .hBtn s))) = scanned := by
    simp [scanned, wholeScan_eq, returnToIdle, enterHandler, btnAt, candidate, scanPat, hidle, hoff]
  rw [← hscanned]
  exact buttonHandlerEnd_dispatches (s := wholeScan (scanStart (enterHandler .hBtn s))) rfl

/-! IRQ.ENC -/

/-- Settles O38: the entry sample, taken in H_ENC, is one case of R158; on None the return undoes the entry. -/
theorem encoderHandlerEntry : Obligations.EncoderHandlerEntry := by
  intro s hidle hqst
  have hexec {t : State} (h : decoderLine (enterHandler .hEnc s) = t) : exec .irqEnc s = .next t :=
    execIrqEnc_next.mpr ⟨hidle, hqst, h.symm⟩
  refine ⟨fun hcw => hexec (decoderLine_entry_cw hqst hcw), fun hccw => hexec (decoderLine_entry_ccw hqst hccw),
    fun hnone => hexec ?_⟩
  calc decoderLine (enterHandler .hEnc s)
      = decoderReturn (some .none) (dropEnc (enterHandler .hEnc s)) := decoderLine_entry_none hqst hnone
    _ = returnToIdle (dropEnc s) := decoderReturn_handler .none rfl
    _ = dropEnc s := returnToIdle_of_idle hidle

/-- What the handler does with QDEC's result is the event at IDLE: the return undoes the entry (R241, R243). -/
theorem decoderReturn_entered (d : Rotation) (n : Nat) (hidle : s.ctx = .idle) :
    decoderReturn (some d) (skipEnc n (enterHandler .hEnc s)) = rotationEvent d (skipEnc n s) :=
  calc decoderReturn (some d) (skipEnc n (enterHandler .hEnc s))
      = returnToIdle (rotationEvent d (skipEnc n (enterHandler .hEnc s))) := decoderReturn_handler d rfl
    _ = rotationEvent d (returnToIdle (skipEnc n s)) := returnToIdle_rotationEvent d _
    _ = rotationEvent d (skipEnc n s) := congrArg _ (returnToIdle_of_idle hidle)

/-- An IRQ.ENC whose waits end is in the state that EV.ROT of its path's direction answers at IDLE, with the samples
taken (R241). -/
theorem WaitPath.irqEnc (p : WaitPath d ab q₁ q₂) (hidle : s.ctx = .idle) (hqst : s.qst = .idle)
    (hs : WaitPath.Samples ab q₂ k m s) :
    ∃ t u, exec .irqEnc s = .next t ∧ stepsTo (k + m + 2) t u ∧
      exec (.evRot (rotationBits d)) (skipEnc (k + m + 3) s) = .next u := by
  have hsamples : WaitPath.Samples ab q₂ k m (enterHandler .hEnc s) := { hs with }
  refine ⟨_, rotationEvent d (skipEnc (k + m + 3) s), execIrqEnc_next.mpr ⟨hidle, hqst, rfl⟩, ?_,
    exec_evRot_rotationBits (s := skipEnc (k + m + 3) s) hidle d⟩
  rw [← decoderReturn_entered d _ hidle]
  exact p.run (.inr rfl) hqst hsamples

/-- Settles O39: the samples the statement lists are those of a whole call, on each of the two paths. -/
theorem encoderHandlerDispatches : Obligations.EncoderHandlerDispatches := by
  intro s k m hidle hqst
  refine ⟨fun hentry hkeep₁ hend₁ hkeep₂ hend₂ => ?_, fun hentry hkeep₁ hend₁ hkeep₂ hend₂ => ?_⟩
  · exact WaitPath.clockwise.irqEnc hidle hqst
      ⟨hentry, hkeep₁, hend₁, fun j h h' => congrArg not (hkeep₂ j h h'), congrArg not hend₂⟩
  · exact WaitPath.counterClockwise.irqEnc hidle hqst
      ⟨hentry, hkeep₁, hend₁, fun j h h' => congrArg not (hkeep₂ j h h'), congrArg not hend₂⟩

end Sys2Proof.Machine
end

section
/-!
SUPPORT. The lines of an operation in progress take nothing from the environment's queue (spec/70_reset_and_hazards.md
R266), and INIT completes from BOOT (R260).
-/

namespace Sys2Proof.Machine

/-! Nothing starts mid-operation -/

/-- `t` has the queue of `s` and its count of idle turns: no operation was fetched between them. -/
structure SameQueue (s t : State) : Prop where
  cmds : t.cmds = s.cmds
  idleTurns : t.idleTurns = s.idleTurns

theorem sameQueue_scanLine (s : State) : SameQueue s (scanLine s) where
  cmds := scanLine_cmds s
  idleTurns := scanLine_keeps State.idleTurns s (fun _ => rfl) (fun _ => rfl) rfl rfl

theorem sameQueue_decoderReturn (d : Option Rotation) (s : State) : SameQueue s (decoderReturn d s) := by
  unfold decoderReturn
  split
  · exact ⟨rfl, rfl⟩
  · split <;> constructor <;> simp

theorem sameQueue_decoderLine (s : State) : SameQueue s (decoderLine s) := by
  obtain ⟨hcmds, hturns⟩ := sameQueue_decoderReturn (decoderNext s.qst (encAt s 0)).2
    { dropEnc s with qst := (decoderNext s.qst (encAt s 0)).1 }
  exact ⟨hcmds, hturns⟩

theorem sameQueue_buttonHandlerEnd (s : State) : SameQueue s (buttonHandlerEnd s) := by
  unfold buttonHandlerEnd
  split <;> constructor <;> simp

/-- No line of an operation fetches one (R266). -/
theorem sameQueue_runLine (a : Activity) (s : State) : SameQueue s (runLine a s) :=
  match a with
  | .boundary => ⟨rfl, rfl⟩
  | .scanning => sameQueue_scanLine s
  | .decoding => sameQueue_decoderLine s
  | .dispatching => sameQueue_buttonHandlerEnd s

/-- Settles O12: off the boundary the step is the next line of the operation in progress, and no line fetches. -/
theorem nothingStartsMidOperation : Obligations.NothingStartsMidOperation := by
  intro s hs
  obtain ⟨hcmds, hturns⟩ := sameQueue_runLine (activity s) s
  exact ⟨runLine (activity s) s, step_in_progress hs, hcmds, hturns⟩

/-! Startup -/

/-- Settles O41: INIT's one guard holds in BOOT, and its byte is IND << 3. -/
theorem initEstablishesStart : Obligations.InitEstablishesStart := fun s hboot =>
  ⟨startupByte Config.ind, execInit_next.mpr ⟨hboot, (startup_eq Config.ind s).symm⟩, startupByte_getLsbD Config.ind⟩

end Sys2Proof.Machine
end

section
/-!
SUPPORT. The fields of a command byte (spec/30_encoding.md R101), and that the decoder and the encoder agree: a byte is
accepted exactly if it is the encoding of a well-formed instruction (R103, R106, R107).
-/

namespace Sys2Proof

variable {b : Byte} {i j : Instr}

/-! The fields of a command byte -/

/-- Which field each bit of a command byte belongs to (R101). -/
theorem getLsbD_commandByte (op : BitVec 4) (v : Bool) (n : BitVec 2) (k : Nat) :
    (commandByte op v n).getLsbD k =
      if k < 2 then n.getLsbD k else if k = 2 then v else if k = 3 then false else op.getLsbD (k - 4) := by
  change BitVec.getLsbD (w := 4 + (1 + (1 + 2))) (op ++ (0#1 ++ (BitVec.ofBool v ++ n))) k = _
  simp only [BitVec.getLsbD_append]
  obtain hk | rfl | rfl | hk : k < 2 ∨ k = 2 ∨ k = 3 ∨ 4 ≤ k := by omega
  · simp [hk, show k < 3 by omega, show k < 4 by omega]
  · simp
  · simp
  · simp [show ¬ k < 4 by omega, show ¬ k < 2 by omega, show k ≠ 2 by omega, show k ≠ 3 by omega]

@[simp] theorem opField_commandByte (op : BitVec 4) (v : Bool) (n : BitVec 2) : opField (commandByte op v n) = op :=
  BitVec.extractLsb'_append_eq_left

@[simp] theorem vField_commandByte (op : BitVec 4) (v : Bool) (n : BitVec 2) : vField (commandByte op v n) = v :=
  getLsbD_commandByte op v n 2

@[simp] theorem nField_commandByte (op : BitVec 4) (v : Bool) (n : BitVec 2) : nField (commandByte op v n) = n := by
  apply BitVec.eq_of_getLsbD_eq
  intro k hk
  simp [nField, getLsbD_commandByte, hk]

theorem commandByte_bit3 (op : BitVec 4) (v : Bool) (n : BitVec 2) : (commandByte op v n).getLsbD 3 = false :=
  getLsbD_commandByte op v n 3

/-- A byte whose bit 3 is 0 is made of its three fields. -/
theorem commandByte_fields (h : b.getLsbD 3 = false) : commandByte (opField b) (vField b) (nField b) = b := by
  apply BitVec.eq_of_getLsbD_eq
  intro k hk
  rw [getLsbD_commandByte]
  obtain hk | rfl | rfl | hk : k < 2 ∨ k = 2 ∨ k = 3 ∨ 4 ≤ k := by omega
  · simp [nField, hk]
  · rfl
  · exact h.symm
  · simp [opField, show ¬ k < 2 by omega, show k ≠ 2 by omega, show k ≠ 3 by omega, show k - 4 < 4 by omega,
      show 4 + (k - 4) = k by omega]

/-- A byte whose bit 3 is 0 is the command byte of the values its fields are known to have. -/
theorem commandByte_eq {op : BitVec 4} {v : Bool} {n : BitVec 2} (h : b.getLsbD 3 = false)
    (hop : (opField b).toNat = op.toNat) (hv : vField b = v) (hn : nField b = n) : commandByte op v n = b := by
  obtain rfl := BitVec.eq_of_toNat_eq hop
  rw [← hv, ← hn, commandByte_fields h]

/-! What the decoder accepts -/

/-- A check of the decoder passes on an instruction only if its condition holds. -/
theorem ite_error_eq_ok {p : Prop} [Decidable p] {r : Except DecodeError Instr} {e : DecodeError} :
    (if p then r else .error e) = .ok i ↔ p ∧ r = .ok i := by
  by_cases hp : p <;> simp [hp]

theorem decodeNone_eq_ok : decodeNone b i = .ok j ↔ vField b = false ∧ nField b = 0#2 ∧ i = j := by
  simp [decodeNone, ite_error_eq_ok, and_assoc]

theorem decodeNoV_eq_ok {r : Except DecodeError Instr} : decodeNoV b r = .ok j ↔ vField b = false ∧ r = .ok j :=
  ite_error_eq_ok

theorem decodeChannel_eq_ok {mk : BitVec 2 → Instr} :
    decodeChannel b mk = .ok j ↔ channelOk (nField b) = true ∧ mk (nField b) = j := by
  simp [decodeChannel, ite_error_eq_ok]

theorem decodeRotation_eq_ok : decodeRotation b = .ok j ↔ rotationOk (nField b) = true ∧ .evRot (nField b) = j := by
  simp [decodeRotation, ite_error_eq_ok]

theorem decodeAdj_eq_ok : decodeAdj b = .ok j ↔ nField b = 0#2 ∧ .adj (vField b) = j := by
  simp [decodeAdj, ite_error_eq_ok]

theorem decode_eq_ok : decode b = .ok i ↔ b.getLsbD 3 = false ∧ decodeOp b = .ok i := by
  cases h : b.getLsbD 3 <;> simp only [decode, h] <;> simp

/-- An accepted byte has, in its fields, the values that the encoder writes for the instruction read (R103). -/
theorem encode_of_decode (h : decode b = .ok i) : i.wellFormed = true ∧ encode i = b := by
  obtain ⟨hbit, h⟩ := decode_eq_ok.mp h
  unfold decodeOp at h
  split at h
  case h_1 hop | h_3 hop | h_4 hop | h_5 hop | h_10 hop | h_11 hop | h_12 hop | h_13 hop =>
    obtain ⟨hv, hn, rfl⟩ := decodeNone_eq_ok.mp h
    exact ⟨rfl, commandByte_eq hbit hop hv hn⟩
  case h_2 hop =>
    obtain ⟨hc, rfl⟩ := decodeChannel_eq_ok.mp h
    exact ⟨hc, commandByte_eq hbit hop rfl rfl⟩
  case h_6 hop =>
    obtain ⟨hv, h⟩ := decodeNoV_eq_ok.mp h
    obtain ⟨hc, rfl⟩ := decodeChannel_eq_ok.mp h
    exact ⟨hc, commandByte_eq hbit hop hv rfl⟩
  case h_7 hop =>
    obtain ⟨hn, rfl⟩ := decodeAdj_eq_ok.mp h
    exact ⟨rfl, commandByte_eq hbit hop rfl hn⟩
  case h_8 hop =>
    obtain ⟨hv, ⟨⟩⟩ := decodeNoV_eq_ok.mp h
    exact ⟨rfl, commandByte_eq hbit hop hv rfl⟩
  case h_9 hop =>
    obtain ⟨hv, h⟩ := decodeNoV_eq_ok.mp h
    obtain ⟨hd, rfl⟩ := decodeRotation_eq_ok.mp h
    exact ⟨hd, commandByte_eq hbit hop hv rfl⟩
  case h_14 => cases h

theorem decode_commandByte (op : BitVec 4) (v : Bool) (n : BitVec 2) :
    decode (commandByte op v n) = decodeOp (commandByte op v n) := by
  rw [decode, commandByte_bit3, if_neg Bool.false_ne_true]

/-- The decoder reads an instruction's own fields back, and a well-formed instruction passes its checks (R103). -/
theorem decode_encode (hwf : i.wellFormed = true) : decode (encode i) = .ok i := by
  cases i with
  | orbRd | scan | qdec | selnext | irqBtn | irqEnc | nop | init =>
    simp [encode, decode_commandByte, decodeOp, decodeNone_eq_ok]
  | orbSet n v => simpa [Instr.wellFormed, encode, decode_commandByte, decodeOp, decodeChannel_eq_ok] using hwf
  | toggle n =>
    simpa [Instr.wellFormed, encode, decode_commandByte, decodeOp, decodeNoV_eq_ok, decodeChannel_eq_ok] using hwf
  | adj inc => simp [encode, decode_commandByte, decodeOp, decodeAdj_eq_ok]
  | evBtn k => simp [encode, decode_commandByte, decodeOp, decodeNoV_eq_ok]
  | evRot n =>
    simpa [Instr.wellFormed, encode, decode_commandByte, decodeOp, decodeNoV_eq_ok, decodeRotation_eq_ok] using hwf

/-- Settles O3: bit 3 of an encoding is 0, and its fields are the operands. -/
theorem decodeOfEncode : Obligations.DecodeOfEncode := fun _ => decode_encode

/-- Settles O4: the fields of an accepted byte make up the encoding of what it decodes to. -/
theorem acceptedByteIsItsEncoding : Obligations.AcceptedByteIsItsEncoding := fun _ _ => encode_of_decode

/-- A byte that is the encoding of a well-formed instruction decodes to it. -/
theorem decode_of_encode_eq (hwf : i.wellFormed = true) (h : encode i = b) : decode b = .ok i :=
  h ▸ decode_encode hwf

/-- Settles O1: each byte written out is the encoding of the well-formed instruction beside it. -/
theorem specBytesDecode : Obligations.SpecBytesDecode := by
  unfold Obligations.SpecBytesDecode
  and_intros <;> exact decode_of_encode_eq rfl rfl

/-- A table word is read as the instruction its byte decodes to. -/
theorem decode_of_decodeTableWord {nbits w : Nat} (h : decodeTableWord nbits w = some i) :
    decode (BitVec.ofNat 8 w) = .ok i := by
  unfold decodeTableWord tableByte at h
  by_cases hw : w < 256
  · cases hd : decode (BitVec.ofNat 8 w) <;> simp_all
  · simp [hw] at h

end Sys2Proof
end

section
/-!
SUPPORT. A command placed from outside starts at the next step (entry 10), and the values at power-up (spec/10_state.md,
section 8).
-/

namespace Sys2Proof.Machine

/-! A command placed from outside -/

theorem startCtx_of_decode {b : Byte} {i : Instr} (h : decode b = .ok i) :
    startCtx b = if i = .init then .boot else .idle := by
  unfold startCtx
  rw [h]
  cases i <;> rfl

/-- A command placed from outside finds nothing in progress (entry 10). -/
theorem startable_placeCommand (b : Byte) (s : State) : Startable (placeCommand b s) := by
  have hctx : startCtx b = .boot ∨ startCtx b = .idle := by
    unfold startCtx
    split
    · exact .inl rfl
    · exact .inr rfl
  exact hctx.imp_right fun hidle => ⟨hidle, rfl, rfl⟩

/-- Settles O8: the byte placed is the one fetched, in the context its instruction starts in. -/
theorem loadedWordRuns : Obligations.LoadedWordRuns := by
  intro s w i hw
  have hd := decode_of_decodeTableWord hw
  rw [← startCtx_of_decode hd]
  exact stepRunsCommand _ _ s.cmds i (startable_placeCommand _ s) rfl hd

/-! Power-up -/

/-- Settles O43: each register has its value of the reset column; ORB is the byte INIT writes. -/
theorem resetState : Obligations.ResetState := by
  have hen : ∀ c : Channel, State.reset.en[c] = false := by
    intro c
    fin_cases c <;> rfl
  exact ⟨rfl, rfl, rfl, rfl, hen, rfl, rfl, rfl, rfl, rfl, rfl, rfl⟩

end Sys2Proof.Machine
end
